-- ==== Sys2Proof/Word.lean ====
section
/-! DEFINITION. The word types of the line: a byte, and the 16-bit word of the CRC and of a sample value. -/

namespace Sys2Proof

/-- One byte of a frame: what one DATA symbol carries (Table 5). -/
abbrev Byte := BitVec 8

/-- The 16-bit word of the CRC register (R19) and of a sample's value field (Table 12). -/
abbrev Half := BitVec 16

end Sys2Proof
end

