-- ==== Sys2Proof/Syntax.lean ====
section
/-! DEFINITION. The commands: one constructor of Instr per row of spec/opcode_table.json, with the operands the rules
give the step. -/

namespace Sys2Proof

/-- The two chain ports (scope, section 1.3). -/
inductive Port where
  | h
  | f
deriving DecidableEq, Repr

/-- The recognised line symbols of Table 5; `stop` is the symbol the manual writes END. -/
inductive Symbol where
  | idle
  | start
  | data (b : Byte)
  | stop
deriving DecidableEq, Repr

/-- What one byte time of a line brings: a recognised symbol, a coding violation, or no symbol (section 1.1). -/
inductive LineItem where
  | symbol (y : Symbol)
  | violation
  | silence
deriving DecidableEq, Repr

/-- The causes for which a frame in reception is abandoned at once (R9). -/
inductive AbandonCause where
  | oversize
  | violation
  | idleInFrame
deriving DecidableEq, Repr

/-- The commands of the block, one per row of the opcode table. A request row carries the fields of its REQUEST frame
(target address, request tag, operand bytes; Table 14); a frame row at the F port carries the frame's bytes from the kind
byte to the CRC. -/
inductive Instr where
  /-- Power is applied (R16, R178). -/
  | powerOnReset
  /-- Supply and clock have been stable for 2 ms (R178). -/
  | powerOnHoldEnd
  /-- RSTn goes low and stays low for at least the given time in nanoseconds (R16, R179). -/
  | pinReset (lowNs : Nat)
  /-- RSTn returns high (R16). -/
  | pinResetRelease
  /-- A recognised symbol arrives at a DOWN receive side (R2). -/
  | firstRecognisedSymbol (p : Port) (y : Symbol)
  /-- The idle count of an ACQUIRING receive side reaches 32 (R3). -/
  | acquisitionComplete (p : Port)
  /-- 4 µs pass without a recognised symbol in ACQUIRING (R3). -/
  | acquisitionTimeout (p : Port)
  /-- 4 µs pass without a recognised symbol in UP (R4). -/
  | lineInterrupted (p : Port)
  /-- A recognised symbol arrives in INTERRUPTED (R5). -/
  | lineResumed (p : Port) (y : Symbol)
  /-- The line-down timer reaches 10 ms in INTERRUPTED (R5). -/
  | lineDownTimeout (p : Port)
  /-- A START symbol arrives in UP (R8). -/
  | frameStart (p : Port)
  /-- A 65th DATA symbol, a coding violation or an IDLE arrives inside a frame (R9). -/
  | frameAbandon (p : Port) (cause : AbandonCause)
  /-- END closes a frame of these bytes at the F port, a SAMPLE frame where it is well-formed (R11). -/
  | sampleFrame (bytes : List Byte)
  /-- END closes a frame of these bytes at the F port, a REPORT or RESPONSE frame where it is well-formed (R11). -/
  | transitFrame (bytes : List Byte)
  /-- END closes an ENUMERATION frame of these fields at the H port (Table 15, R153). -/
  | enumeration (mode next flags tag : Byte)
  /-- END closes an IDENTIFY request at the H port (R167). -/
  | identify (target tag : Byte) (operands : List Byte)
  /-- READ-ENTRY (R31). -/
  | readEntry (target tag : Byte) (operands : List Byte)
  /-- WRITE-ENTRY (R30). -/
  | writeEntry (target tag : Byte) (operands : List Byte)
  /-- READ-STATE (R34). -/
  | readState (target tag : Byte) (operands : List Byte)
  /-- MAP-ADD (R41). -/
  | mapAdd (target tag : Byte) (operands : List Byte)
  /-- MAP-REMOVE (R42). -/
  | mapRemove (target tag : Byte) (operands : List Byte)
  /-- MAP-LIST (R26). -/
  | mapList (target tag : Byte) (operands : List Byte)
  /-- COMMIT (R99). -/
  | commit (target tag : Byte) (operands : List Byte)
  /-- REPORT-ACK (R129). -/
  | reportAck (target tag : Byte) (operands : List Byte)
  /-- TRIP-ACK (R137). -/
  | tripAck (target tag : Byte) (operands : List Byte)
  /-- READ-SETTINGS (R172). -/
  | readSettings (target tag : Byte) (operands : List Byte)
  /-- WRITE-SETTINGS (R173). -/
  | writeSettings (target tag : Byte) (operands : List Byte)
  /-- RESET (R176). -/
  | reset (target tag : Byte) (operands : List Byte)
  /-- A request whose operation code Table 16 does not list (R156). -/
  | unknownOp (op target tag : Byte) (operands : List Byte)
  /-- The qualifier takes the oldest PENDING frame (R45). -/
  | frameClaim
  /-- The tick generator issues a tick (R87); `deadlineFirst` says whether the commit controller takes its step, and any
  forcing, before the channel table ages its entries (R96). -/
  | tick (deadlineFirst : Bool)
  /-- An entry whose age the tick has brought to its stale limit becomes STALE (R92). -/
  | stale (entry : Nat)
  /-- The commit controller forces the waiting units at the end of the deadline (R106). -/
  | deadlineForcing
  /-- The frame of this report sequence, expired at the tick, becomes due or is discarded (R127, R128). -/
  | retryExpiry (sequence : Byte)
  /-- The head-side arbiter makes a grant (R145). -/
  | grant
  /-- The END of the H transmitter's frame has gone out (R13). -/
  | hTransmissionComplete
  /-- The F transmitter takes the oldest outbound frame (R14). -/
  | fTransmitStart
  /-- The END of the F transmitter's frame has gone out (R14). -/
  | fTransmissionComplete
  /-- END closes a frame of these bytes at the H port that fails a check or is misdirected (R10, R12). -/
  | hReceiveDiscard (bytes : List Byte)
deriving DecidableEq, Repr

end Sys2Proof
end

