-- ==== Sys2Proof/Decode.lean ====
section
/-! DEFINITION. What a word of the opcode table spells. The table gives no row any bits ("fields" is empty in every row),
so no word spells a command; the byte layouts of the frames that carry requests are in Machine/Frames.lean. -/

namespace Sys2Proof

/-- The command of a word of the opcode table: none, since no row has bits. -/
def decodeTableWord (_nbits _w : Nat) : Option Instr := none

end Sys2Proof
end

