-- ==== Sys2Proof/Config.lean ====
section
/-! DEFINITION. The fixed quantities of the SQ-96 (Table 3, R179). The manual leaves no result value open, so
there is no free value here: every constant is one the manual states. -/

namespace Sys2Proof.Config

/-- Channel entries of the table (Table 3). -/
abbrev entryCount : Nat := 96
/-- Buffers of the inbound frame queue (Table 3, R79). -/
abbrev inboundBuffers : Nat := 10
/-- Frames the outbound queue holds (R160). -/
abbrev outboundCapacity : Nat := 4
/-- Frames the response queue holds (R158). -/
abbrev responseCapacity : Nat := 2
/-- Entries of the recent-request list (R157). -/
abbrev recentCapacity : Nat := 4
/-- General slots of the report queue, the reserved LOSS slot apart (R113). -/
abbrev generalSlots : Nat := 31
/-- Records a report frame holds at most (R124). -/
abbrev recordsPerFrame : Nat := 4
/-- Frames the unacknowledged report list holds (R125). -/
abbrev unackedCapacity : Nat := 4
/-- Trip groups and trip lines (Table 3). -/
abbrev groupCount : Nat := 4
/-- The largest frame, in bytes (section 1.1). -/
abbrev maxFrameBytes : Nat := 64
/-- The largest value of a 16-bit saturating counter, of an age and of the LOSS extra (section 5.1 of the scope). -/
abbrev counterMax : Nat := 65535
/-- The largest value of a repeat count, a split count and an event tally (section 5.1 of the scope). -/
abbrev byteMax : Nat := 255
/-- The promotion counter's threshold (R147). -/
abbrev promotionLimit : Nat := 8
/-- Consecutive IDLE symbols that complete an acquisition (R3), and the length of a long gap (R1). -/
abbrev idleRunLength : Nat := 32
/-- Frames a transmitter sends between two long gaps (R1). -/
abbrev longGapLimit : Nat := 16
/-- IDLE symbols after an END that is not followed by a long gap (R1). -/
abbrev shortGap : Nat := 2
/-- Clock periods of one byte time (R179). -/
abbrev clocksPerByte : Nat := 8
/-- Clock periods of the 4 µs timers of R3 and R4 (R179). -/
abbrev silenceClocks : Nat := 64
/-- Clock periods of the 10 ms line-down timer of R5 (R179). -/
abbrev lineDownClocks : Nat := 160000
/-- Clock periods of the 2 ms power-on hold (R178) at the 16 MHz of R179. -/
abbrev holdClocks : Nat := 32000
/-- The shortest low level on RSTn taken as a pin reset, in nanoseconds (R179). -/
abbrev rstnMinNs : Nat := 100

end Sys2Proof.Config
end

