-- ==== Sys2Proof/Machine/State.lean ====
section
/-! DEFINITION. The state of the SQ-96, block by block as Table 1 lists them, as plain data; the reasons a step can stop;
and the state at the end of the power-on hold. -/

namespace Sys2Proof.Machine

open Sys2Proof

/-- Why a step faults: the type has no constructor, because no command of this block stops. The rules give every command
its effect, and an event whose condition does not hold leaves the state as it is (safe: no run ends here). -/
inductive Fault where
deriving DecidableEq, Repr

/-- Why a step is refused. -/
inductive Refusal where
  /-- Raised by exec's arm alone, for a command that has no meaning yet; safe, since the run stops. -/
  | notModelled (mnemonic : String)
deriving DecidableEq, Repr

/-! ## Encoded values (Tables 17 and 18) -/

/-- The event kinds of Table 18. -/
inductive EventKind where
  | enterHigh | enterLow | returned | stale | resume | split | fieldDown | fieldUp | commitDone | lost | restarted
deriving DecidableEq, Repr

/-- The delivery classes of Table 18. -/
inductive EventClass where
  | silent | routine | urgent
deriving DecidableEq, Repr

/-- The conditions of Table 32. -/
inductive Condition where
  | idle | normal | rising | high | highClearing | falling | low | lowClearing | stale
deriving DecidableEq, Repr

/-- The reset causes of Table 18. -/
inductive ResetCause where
  | powerOn | pin | request | headLoss
deriving DecidableEq, Repr

/-- The status codes of Table 17. -/
inductive Status where
  | done | accepted | addressed | busy | range | invalid | duplicateKey | claimed | notFound | active | unknownOp | length
deriving DecidableEq, Repr

/-! ## Chain ports (chapter 1) -/

/-- The receive-side port states of Table 6. -/
inductive RxState where
  | down | acquiring | up | interrupted
deriving DecidableEq, Repr

/-- What a receive side in UP is doing: between frames, collecting a frame's bytes, or ignoring a frame that was refused an
inbound buffer (R8). -/
inductive Reception where
  | between
  | inFrame (bytes : List Byte)
  | refused
deriving DecidableEq, Repr

/-- A receive side: port state, idle count (0 to 32), time since the last recognised symbol and line-down timer, both in
clock periods, and the frame in reception. -/
structure RxSide where
  state : RxState
  idleCount : Nat
  silence : Nat
  lineDown : Nat
  reception : Reception
deriving DecidableEq, Repr

/-- The block that supplied a frame in transmission, which completion reports to (R13, R14). -/
inductive Supplier where
  | transit
  | response
  | report (sequence : Byte)
  | outbound
deriving DecidableEq, Repr

/-- A frame in transmission: the transmitter's own copy of the bytes, its supplier, and the symbols sent so far. -/
structure Sending where
  bytes : List Byte
  source : Supplier
  sent : Nat
deriving DecidableEq, Repr

/-- A transmit side: the frame in transmission, the IDLE symbols still owed after the last END, the run of IDLE symbols
sent so far (counted to 32), the long-gap count (R1), and what the line carried in the last byte time. -/
structure TxSide where
  frame : Option Sending
  gapLeft : Nat
  idleRun : Nat
  longGap : Nat
  out : LineItem
deriving DecidableEq, Repr

/-- A port: its two independent sides, and what its partner is about to send, one item a byte time (an empty list is a
silent line). -/
structure PortSides where
  rx : RxSide
  tx : TxSide
  line : List LineItem
deriving DecidableEq, Repr

/-! ## Inbound frame queue, channel map, channel table (chapters 3 and 5) -/

/-- The states of a buffer of the queue proper (Table 37). -/
inductive BufferState where
  | pending | ready | inTransmission
deriving DecidableEq, Repr

/-- A frame of the queue proper. -/
structure InboundFrame where
  state : BufferState
  bytes : List Byte
deriving DecidableEq, Repr

/-- A key of the channel map and the entry it names (R39). -/
structure MapKey where
  node : Nat
  channel : Nat
  entry : Nat
deriving DecidableEq, Repr

/-- A configuration record (Table 25). -/
structure ConfigRecord where
  enable : Bool
  pair : Bool
  highCheck : Bool
  lowCheck : Bool
  alarmBurst : Bool
  offset : Int
  high : Int
  low : Int
  hysteresis : Nat
  enterPersistence : Nat
  returnPersistence : Nat
  period : Nat
  duty : Nat
  limitClass : EventClass
  returnClass : EventClass
  staleClass : EventClass
  staleLimit : Nat
  tripGroup : Option Nat
  tripHigh : Bool
  tripLow : Bool
  tripStale : Bool
deriving DecidableEq, Repr

/-- The default record of R28. -/
def ConfigRecord.default : ConfigRecord where
  enable := false
  pair := false
  highCheck := false
  lowCheck := false
  alarmBurst := false
  offset := 0
  high := 0
  low := 0
  hysteresis := 0
  enterPersistence := 1
  returnPersistence := 1
  period := 1
  duty := 1
  limitClass := .routine
  returnClass := .routine
  staleClass := .routine
  staleLimit := 0
  tripGroup := none
  tripHigh := false
  tripLow := false
  tripStale := false

/-- The run state of an entry (Table 26). -/
structure RunState where
  condition : Condition
  persistence : Nat
  position : Nat
  age : Nat
  lastValue : Option Int
  generation : Byte
  waiting : Bool
  splitCount : Nat
  tally : Nat
  lastKind : Option EventKind
deriving DecidableEq, Repr

/-- The run state that a run-state reset leaves (R33), with live generation 0 and waiting no (R44, power-on). -/
def RunState.initial : RunState where
  condition := .idle
  persistence := 0
  position := 0
  age := 0
  lastValue := none
  generation := 0
  waiting := false
  splitCount := 0
  tally := 0
  lastKind := none

/-- A channel entry (Table 24). -/
structure Entry where
  live : ConfigRecord
  staging : ConfigRecord
  run : RunState
deriving DecidableEq, Repr

/-- An entry after power-on reset (R28, R44). -/
def Entry.initial : Entry := ⟨ConfigRecord.default, ConfigRecord.default, RunState.initial⟩

/-! ## Settings (Table 20, Table 70) -/

/-- The tick periods of Table 41. -/
inductive TickPeriod where
  | us100 | ms1 | ms10 | ms100
deriving DecidableEq, Repr

/-- The settings record; `trip` is its fifth byte, modes in bits 3:0 and polarities in bits 7:4. -/
structure Settings where
  tickPeriod : TickPeriod
  retryInterval : Nat
  retryLimit : Nat
  fieldLineClass : EventClass
  trip : Byte
deriving DecidableEq, Repr

/-- The defaults of Table 20. -/
def Settings.default : Settings := ⟨.ms1, 50, 3, .urgent, 0⟩

/-! ## Commit controller (Table 44) -/

/-- The commit controller; the waiting set is the waiting flag of each entry's run state. -/
structure CommitState where
  generation : Byte
  pending : Bool
  deadline : Nat
  forcedCount : Nat
deriving DecidableEq, Repr

/-! ## Report unit (Table 49) -/

/-- The subject of a report record (R113). -/
inductive Subject where
  | entry (e : Nat)
  | fieldLine
  | commit
  | loss
  | restart
deriving DecidableEq, Repr

/-- A report record (Table 50); a record is URGENT or ROUTINE, never SILENT. -/
structure ReportRecord where
  subject : Subject
  firstKind : EventKind
  lastKind : EventKind
  urgent : Bool
  repeatCount : Nat
  generation : Byte
  value : Option Int
  extra : Option Nat
deriving DecidableEq, Repr

/-- A frame of the unacknowledged report list (Table 49). `due` says that it waits for a retransmission grant (R127);
`expired` that the last tick step brought it to its interval and R127 or R128 has yet to be applied to it. -/
structure ReportFrame where
  sequence : Byte
  records : List ReportRecord
  sendCount : Nat
  ticks : Nat
  due : Bool
  expired : Bool
deriving DecidableEq, Repr

/-- The report unit. -/
structure ReportUnit where
  queue : List ReportRecord
  unacked : List ReportFrame
  nextSequence : Byte
deriving DecidableEq, Repr

/-! ## Trip groups (Table 56; mode and polarity are in the settings) -/

/-- The states of a trip group. -/
inductive GroupState where
  | clear | asserted | latched
deriving DecidableEq, Repr

/-- A trip group: its tripping set, ascending, and its state. -/
structure TripGroup where
  set : List Nat
  state : GroupState
deriving DecidableEq, Repr

/-- A pin level. -/
inductive Level where
  | low | high
deriving DecidableEq, Repr

/-! ## Management agent (Table 66) -/

/-- A frame of the response queue, its fields fixed when it is appended (R158). `address` is the address an ADDRESSED
response keeps (R23), absent where the address is written at the grant; `granted` says that the H transmitter has it. -/
structure Response where
  tag : Byte
  op : Byte
  status : Status
  repeated : Bool
  payload : List Byte
  address : Option Byte
  granted : Bool
deriving DecidableEq, Repr

/-- A frame of the outbound queue; `taken` says that the F transmitter has it. -/
structure OutboundFrame where
  bytes : List Byte
  taken : Bool
deriving DecidableEq, Repr

/-- The five counters of R161. -/
structure Counters where
  fReceiveDiscards : Nat
  inboundDrops : Nat
  hReceiveDiscards : Nat
  outboundDrops : Nat
  droppedRequests : Nat
deriving DecidableEq, Repr

/-- The counters at 0. -/
def Counters.zero : Counters := ⟨0, 0, 0, 0, 0⟩

/-- The management agent. An absent address is the UNASSIGNED state (R152). -/
structure Agent where
  address : Option Byte
  responses : List Response
  recent : List (Byte × Status)
  outbound : List OutboundFrame
  counters : Counters
  settings : Settings
  lastCause : ResetCause
deriving DecidableEq, Repr

/-! ## Power and the whole device -/

/-- The power-on hold (R178), with the clock periods for which supply and clock have been stable, or running. -/
inductive Power where
  | hold (stable : Nat)
  | running
deriving DecidableEq, Repr

/-- The device. `rstn` is the level of the pin RSTn, high being true. `staleDue` holds the entries, ascending, that the tick
claim in progress has found at their stale limit and has yet to make STALE. `pending` is the queue of commands. -/
structure State where
  power : Power
  rstn : Bool
  hPort : PortSides
  fPort : PortSides
  inbound : List InboundFrame
  map : List MapKey
  table : List Entry
  staleDue : List Nat
  elapsed : Nat
  commit : CommitState
  report : ReportUnit
  groups : List TripGroup
  promotion : Nat
  agent : Agent
  pending : List Instr
deriving DecidableEq, Repr

/-- A receive side in DOWN, however it came there (R2). -/
def RxSide.inDown : RxSide := ⟨.down, 0, 0, 0, .between⟩

/-- A transmitter that starts sending IDLE (R16): no frame, long-gap count 0. -/
def TxSide.fresh : TxSide := ⟨none, 0, 0, 0, .symbol .idle⟩

/-- A trip group that is CLEAR with an empty tripping set (R143). -/
def TripGroup.cleared : TripGroup := ⟨[], .clear⟩

/-- The record that RESTARTED creates in an empty queue (R133). -/
def ReportRecord.restarted (cause : Nat) (generation : Byte) : ReportRecord :=
  ⟨.restart, .restarted, .restarted, true, 1, generation, none, some cause⟩

/-- The device at the end of the power-on hold: the power-on column of every chapter's reset table, as Table 72 gathers
it (R178). -/
def State.reset : State where
  power := .running
  rstn := true
  hPort := ⟨RxSide.inDown, TxSide.fresh, []⟩
  fPort := ⟨RxSide.inDown, TxSide.fresh, []⟩
  inbound := []
  map := []
  table := List.replicate Config.entryCount Entry.initial
  staleDue := []
  elapsed := 0
  commit := ⟨0, false, 0, 0⟩
  report := ⟨[ReportRecord.restarted 0 0], [], 0⟩
  groups := List.replicate Config.groupCount TripGroup.cleared
  promotion := 0
  agent := ⟨none, [], [], [], Counters.zero, Settings.default, .powerOn⟩
  pending := []

end Sys2Proof.Machine
end

