-- ==== Sys2Proof/Machine/Frames.lean ====
section
/-! DEFINITION. Chain frame formats (chapter 2): byte order, the CRC, the encoded values of Tables 17 and 18, the layouts
of the five frame kinds, and the format check of each. -/

namespace Sys2Proof.Machine

open Sys2Proof

/-! ## Multi-byte fields, most significant byte first (R18) -/

/-- The two bytes of a 16-bit word. -/
def halfBytes (w : Half) : List Byte := [w.extractLsb' 8 8, w.extractLsb' 0 8]

/-- The 16-bit word of two bytes. -/
def halfOf (hi lo : Byte) : Half := hi ++ lo

/-- A number of 0 to 65535 as two bytes. -/
def natBytes (n : Nat) : List Byte := halfBytes (BitVec.ofNat 16 n)

/-- The four bytes of a 32-bit word. -/
def wordBytes (w : BitVec 32) : List Byte :=
  [w.extractLsb' 24 8, w.extractLsb' 16 8, w.extractLsb' 8 8, w.extractLsb' 0 8]

/-- The 32-bit word of four bytes. -/
def wordOf (a b c d : Byte) : BitVec 32 := a ++ b ++ c ++ d

/-- A signed 32-bit field, two's complement. -/
def intBytes (v : Int) : List Byte := wordBytes (BitVec.ofInt 32 v)

/-- A flag as the bit it occupies. -/
def flagBit (set : Bool) (place : Nat) : Nat := if set then 2 ^ place else 0

/-! ## Encoded values -/

/-- The code of an event kind (Table 18). -/
def EventKind.code : EventKind → Nat
  | .enterHigh => 1
  | .enterLow => 2
  | .returned => 3
  | .stale => 4
  | .resume => 5
  | .split => 6
  | .fieldDown => 7
  | .fieldUp => 8
  | .commitDone => 9
  | .lost => 10
  | .restarted => 11

/-- The code of a condition (Table 18). -/
def Condition.code : Condition → Nat
  | .idle => 0
  | .normal => 1
  | .rising => 2
  | .high => 3
  | .highClearing => 4
  | .falling => 5
  | .low => 6
  | .lowClearing => 7
  | .stale => 8

/-- The code of a reset cause (Table 18). -/
def ResetCause.code : ResetCause → Nat
  | .powerOn => 0
  | .pin => 1
  | .request => 2
  | .headLoss => 3

/-- The code of a class (Table 18). -/
def EventClass.code : EventClass → Nat
  | .silent => 0
  | .routine => 1
  | .urgent => 2

/-- The class of a code; code 3 names none (R25). -/
def EventClass.ofCode : Nat → Option EventClass
  | 0 => some .silent
  | 1 => some .routine
  | 2 => some .urgent
  | _ => none

/-- The code of a status (Table 17). -/
def Status.code : Status → Byte
  | .done => 0x00
  | .accepted => 0x01
  | .addressed => 0x02
  | .busy => 0x10
  | .range => 0x11
  | .invalid => 0x12
  | .duplicateKey => 0x13
  | .claimed => 0x14
  | .notFound => 0x15
  | .active => 0x16
  | .unknownOp => 0x20
  | .length => 0x21

/-- Every status of Table 17. -/
def Status.all : List Status :=
  [.done, .accepted, .addressed, .busy, .range, .invalid, .duplicateKey, .claimed, .notFound, .active, .unknownOp, .length]

/-- Whether a byte is a status code (R23). -/
def isStatusCode (b : Byte) : Bool := Status.all.any (·.code == b)

/-- The subject byte of a record (Table 13). -/
def Subject.code : Subject → Byte
  | .entry e => BitVec.ofNat 8 e
  | .fieldLine => 0xF0
  | .commit => 0xF1
  | .loss => 0xF2
  | .restart => 0xF3

/-- Whether a byte is a subject code of Table 13. -/
def isSubjectCode (b : Byte) : Bool := b.toNat < Config.entryCount || (0xF0 ≤ b.toNat && b.toNat ≤ 0xF3)

/-! ## The CRC (R19) -/

/-- One shift of the CRC register. -/
def crcShift (r : Half) : Half := if r.getLsbD 15 then (r <<< 1) ^^^ 0x1021 else r <<< 1

/-- The CRC register after one byte, most significant bit first. -/
def crcByte (r : Half) (b : Byte) : Half :=
  let x := r ^^^ (b ++ (0 : Byte))
  crcShift (crcShift (crcShift (crcShift (crcShift (crcShift (crcShift (crcShift x)))))))

/-- The CRC of a string of bytes, from FFFFh. -/
def crc (bytes : List Byte) : Half := bytes.foldl crcByte 0xFFFF

/-- A body with its CRC after it. -/
def withCrc (body : List Byte) : List Byte := body ++ halfBytes (crc body)

/-- The bytes of a frame before its CRC. -/
def frameBody (bytes : List Byte) : List Byte := bytes.take (bytes.length - 2)

/-- The CRC step of R10; a frame too short for a kind byte and a CRC fails it. -/
def crcOk (bytes : List Byte) : Bool :=
  decide (3 ≤ bytes.length) && (bytes.drop (bytes.length - 2) == halfBytes (crc (frameBody bytes)))

/-! ## Frame kinds (Table 10) -/

/-- The five frame kinds. -/
inductive FrameKind where
  | sample | report | response | request | enumeration
deriving DecidableEq, Repr

/-- The kind of a kind byte. -/
def FrameKind.ofByte (b : Byte) : Option FrameKind :=
  if b = 0x51 then some .sample
  else if b = 0x52 then some .report
  else if b = 0x53 then some .response
  else if b = 0x61 then some .request
  else if b = 0x62 then some .enumeration
  else none

/-- Byte i of a frame, 0 past its end. -/
def byteAt (bytes : List Byte) (i : Nat) : Byte := bytes.getD i 0

/-! ## SAMPLE frames (Tables 11 and 12) -/

/-- A sample field: its first byte, which holds channel, tag, quality and qualified mark, and its value. -/
structure Sample where
  head : Byte
  value : Half
deriving DecidableEq, Repr

/-- The tags of Table 12. -/
inductive Tag where
  | unevaluated | normal | high | low
deriving DecidableEq, Repr

/-- The code of a tag. -/
def Tag.code : Tag → Nat
  | .unevaluated => 0
  | .normal => 1
  | .high => 2
  | .low => 3

/-- The channel of a sample, bits 3:0. -/
def Sample.channel (x : Sample) : Nat := (x.head.extractLsb' 0 4).toNat

/-- Whether a sample's quality is valid, bit 6. -/
def Sample.valid (x : Sample) : Bool := x.head.getLsbD 6

/-- Whether a sample's qualified mark is set, bit 7. -/
def Sample.qualified (x : Sample) : Bool := x.head.getLsbD 7

/-- A sample with a tag written and the qualified mark set; channel, quality and value stay (R65). -/
def Sample.tagged (x : Sample) (t : Tag) : Sample :=
  ⟨(x.head &&& 0x4F) ||| BitVec.ofNat 8 (128 + 16 * t.code), x.value⟩

/-- The samples of a string of sample fields. -/
def parseSamples : List Byte → List Sample
  | a :: b :: c :: rest => ⟨a, halfOf b c⟩ :: parseSamples rest
  | _ => []

/-- The bytes of a sample field. -/
def Sample.bytes (x : Sample) : List Byte := x.head :: halfBytes x.value

/-- The origin node of a sample frame. -/
def frameNode (bytes : List Byte) : Nat := (byteAt bytes 1).toNat

/-- The samples of a sample frame. -/
def frameSamples (bytes : List Byte) : List Sample :=
  parseSamples ((bytes.drop 3).take (3 * (byteAt bytes 2).toNat))

/-- A sample frame of an origin node byte and samples, with count and CRC (R20). -/
def sampleFrameBytes (node : Byte) (samples : List Sample) : List Byte :=
  withCrc (0x51 :: node :: BitVec.ofNat 8 samples.length :: samples.flatMap Sample.bytes)

/-- The format rule of a SAMPLE frame (R20). -/
def sampleFormatOk (bytes : List Byte) : Bool :=
  decide ((byteAt bytes 2).toNat ≤ 16) && decide (bytes.length = 5 + 3 * (byteAt bytes 2).toNat)
    && decide ((byteAt bytes 1).toNat < 64)

/-! ## REPORT frames (Table 13) -/

/-- The bytes of a report record (R21). -/
def ReportRecord.bytes (r : ReportRecord) : List Byte :=
  [r.subject.code, BitVec.ofNat 8 (16 * r.firstKind.code + r.lastKind.code),
    BitVec.ofNat 8 (flagBit r.urgent 0 + flagBit r.value.isSome 1 + flagBit r.extra.isSome 2),
    BitVec.ofNat 8 r.repeatCount, r.generation]
  ++ (match r.value with | some v => intBytes v | none => [])
  ++ (match r.extra with | some x => natBytes x | none => [])

/-- A report frame of a stage address, a sequence and records (Table 13). -/
def reportFrameBytes (address sequence : Byte) (records : List ReportRecord) : List Byte :=
  withCrc (0x52 :: address :: sequence :: BitVec.ofNat 8 records.length :: records.flatMap ReportRecord.bytes)

/-- Whether a nibble is an event kind code 1 to 11. -/
def isKindCode (n : Nat) : Bool := decide (1 ≤ n ∧ n ≤ 11)

/-- Whether a string is exactly so many well-formed report records, each read from the byte after the one before (R21). -/
def reportRecordsOk : Nat → List Byte → Bool
  | 0, bytes => bytes.isEmpty
  | n + 1, subject :: kinds :: flags :: repeats :: _ :: rest =>
    isSubjectCode subject && isKindCode (kinds.toNat / 16) && isKindCode (kinds.toNat % 16)
      && decide (flags.toNat < 8) && !(flags.getLsbD 1 && flags.getLsbD 2) && (repeats != 0)
      && (let optional := if flags.getLsbD 1 then 4 else if flags.getLsbD 2 then 2 else 0
          decide (optional ≤ rest.length) && reportRecordsOk n (rest.drop optional))
  | _ + 1, _ => false

/-- The format rule of a REPORT frame (R21). -/
def reportFormatOk (bytes : List Byte) : Bool :=
  decide (1 ≤ (byteAt bytes 1).toNat ∧ (byteAt bytes 1).toNat ≤ 30)
    && decide (1 ≤ (byteAt bytes 3).toNat ∧ (byteAt bytes 3).toNat ≤ 4)
    && reportRecordsOk (byteAt bytes 3).toNat ((frameBody bytes).drop 4)

/-! ## RESPONSE and REQUEST frames (Table 14) -/

/-- A response frame under the stage address given (R23). -/
def Response.bytes (address : Byte) (r : Response) : List Byte :=
  withCrc (0x53 :: address :: r.tag :: r.op :: r.status.code :: BitVec.ofNat 8 (flagBit r.repeated 0)
    :: BitVec.ofNat 8 r.payload.length :: r.payload)

/-- The format rule of a RESPONSE frame (R23). -/
def responseFormatOk (bytes : List Byte) : Bool :=
  decide (1 ≤ (byteAt bytes 1).toNat ∧ (byteAt bytes 1).toNat ≤ 30) && isStatusCode (byteAt bytes 4)
    && decide ((byteAt bytes 5).toNat < 2) && decide ((byteAt bytes 6).toNat ≤ 55)
    && decide (bytes.length = 9 + (byteAt bytes 6).toNat)

/-- A request frame (Table 14). -/
def requestFrameBytes (target tag op : Byte) (operands : List Byte) : List Byte :=
  withCrc (0x61 :: target :: tag :: op :: BitVec.ofNat 8 operands.length :: operands)

/-- The format rule of a REQUEST frame, on its fields (R22). -/
def requestFieldsOk (target : Byte) (operands : List Byte) : Bool :=
  decide (1 ≤ target.toNat ∧ target.toNat ≤ 31) && decide (operands.length ≤ 57)

/-- The operand bytes of a request frame. -/
def requestOperands (bytes : List Byte) : List Byte := (frameBody bytes).drop 5

/-- The format rule of a REQUEST frame (R22). -/
def requestFormatOk (bytes : List Byte) : Bool :=
  decide (7 ≤ bytes.length) && requestFieldsOk (byteAt bytes 1) (requestOperands bytes)
    && decide (bytes.length = 7 + (byteAt bytes 4).toNat)

/-! ## ENUMERATION frames (Table 15) -/

/-- An enumeration frame (Table 15). -/
def enumerationFrameBytes (mode next flags tag : Byte) : List Byte := withCrc [0x62, mode, next, flags, tag]

/-- The format rule of an ENUMERATION frame, on its fields (R24). -/
def enumerationFieldsOk (mode next flags : Byte) : Bool :=
  decide (mode.toNat ≤ 1) && decide (1 ≤ next.toNat ∧ next.toNat ≤ 31) && decide (flags.toNat < 2)

/-- The format rule of an ENUMERATION frame (R24). -/
def enumerationFormatOk (bytes : List Byte) : Bool :=
  decide (bytes.length = 7) && enumerationFieldsOk (byteAt bytes 1) (byteAt bytes 2) (byteAt bytes 3)

/-! ## The whole check (R10) -/

/-- The format step of R10 for a kind. -/
def formatOk (kind : FrameKind) (bytes : List Byte) : Bool :=
  match kind with
  | .sample => sampleFormatOk bytes
  | .report => reportFormatOk bytes
  | .response => responseFormatOk bytes
  | .request => requestFormatOk bytes
  | .enumeration => enumerationFormatOk bytes

/-- The kind of a frame that passes both steps of R10; none where it fails one. -/
def checkFrame (bytes : List Byte) : Option FrameKind :=
  if crcOk bytes then
    match FrameKind.ofByte (byteAt bytes 0) with
    | some kind => if formatOk kind bytes then some kind else none
    | none => none
  else none

end Sys2Proof.Machine
end

