-- ==== Sys2Proof/Machine/Operands.lean ====
section
/-! DEFINITION. The records carried in management frames (section 2.6): configuration and settings records, their decoding
checks and validity, and the payloads built from the state. -/

namespace Sys2Proof.Machine

open Sys2Proof

/-! ## Configuration record (Table 19) -/

/-- The largest value of the record's signed range (section 3.1). -/
def ConfigRecord.widthMax (r : ConfigRecord) : Int := if r.pair then 2147483647 else 32767

/-- The smallest value of the record's signed range (section 3.1). -/
def ConfigRecord.widthMin (r : ConfigRecord) : Int := -r.widthMax - 1

/-- The 24 bytes of a configuration record. -/
def ConfigRecord.bytes (r : ConfigRecord) : List Byte :=
  [BitVec.ofNat 8 (flagBit r.enable 0 + flagBit r.pair 1 + flagBit r.highCheck 2 + flagBit r.lowCheck 3
      + flagBit r.alarmBurst 4)]
  ++ intBytes r.offset ++ intBytes r.high ++ intBytes r.low ++ wordBytes (BitVec.ofNat 32 r.hysteresis)
  ++ [BitVec.ofNat 8 (16 * r.enterPersistence + r.returnPersistence), BitVec.ofNat 8 r.period, BitVec.ofNat 8 r.duty,
      BitVec.ofNat 8 (r.limitClass.code + 4 * r.returnClass.code + 16 * r.staleClass.code)]
  ++ natBytes r.staleLimit
  ++ [BitVec.ofNat 8 ((match r.tripGroup with | some g => 128 + g | none => 0)
      + flagBit r.tripHigh 4 + flagBit r.tripLow 5 + flagBit r.tripStale 6)]

/-- The signed 32-bit field at byte i of a record. -/
def intAt (bytes : List Byte) (i : Nat) : Int :=
  (wordOf (byteAt bytes i) (byteAt bytes (i + 1)) (byteAt bytes (i + 2)) (byteAt bytes (i + 3))).toInt

/-- The trip group of a trip byte: none where the member bit is clear. -/
def tripGroupOf (b : Byte) : Option Nat := if b.getLsbD 7 then some (b.extractLsb' 0 2).toNat else none

/-- The record that 24 bytes encode, read field by field as Table 19 lays them out; none where a decoding check of R25
fails. -/
def decodeRecord (bytes : List Byte) : Option ConfigRecord :=
  let flags := byteAt bytes 0
  let persistence := byteAt bytes 17
  let classes := byteAt bytes 20
  let trip := byteAt bytes 23
  match EventClass.ofCode (classes.extractLsb' 0 2).toNat, EventClass.ofCode (classes.extractLsb' 2 2).toNat,
      EventClass.ofCode (classes.extractLsb' 4 2).toNat with
  | some limitClass, some returnClass, some staleClass =>
    if bytes.length = 24 ∧ flags.toNat < 32 ∧ classes.toNat < 64 ∧ trip.extractLsb' 2 2 = 0
        ∧ (trip.getLsbD 7 = false → trip.extractLsb' 0 2 = 0)
        ∧ persistence.extractLsb' 4 4 ≠ 0 ∧ persistence.extractLsb' 0 4 ≠ 0 ∧ byteAt bytes 18 ≠ 0 then
      some
        { enable := flags.getLsbD 0
          pair := flags.getLsbD 1
          highCheck := flags.getLsbD 2
          lowCheck := flags.getLsbD 3
          alarmBurst := flags.getLsbD 4
          offset := intAt bytes 1
          high := intAt bytes 5
          low := intAt bytes 9
          hysteresis :=
            (wordOf (byteAt bytes 13) (byteAt bytes 14) (byteAt bytes 15) (byteAt bytes 16)).toNat
          enterPersistence := (persistence.extractLsb' 4 4).toNat
          returnPersistence := (persistence.extractLsb' 0 4).toNat
          period := (byteAt bytes 18).toNat
          duty := (byteAt bytes 19).toNat
          limitClass := limitClass
          returnClass := returnClass
          staleClass := staleClass
          staleLimit := (halfOf (byteAt bytes 21) (byteAt bytes 22)).toNat
          tripGroup := tripGroupOf trip
          tripHigh := trip.getLsbD 4
          tripLow := trip.getLsbD 5
          tripStale := trip.getLsbD 6 }
    else none
  | _, _, _ => none

/-- Whether a value lies within the record's signed range. -/
def ConfigRecord.inWidth (r : ConfigRecord) (v : Int) : Bool := decide (r.widthMin ≤ v ∧ v ≤ r.widthMax)

/-- The four conditions of R29 for a record written to entry e. -/
def ConfigRecord.valid (r : ConfigRecord) (e : Nat) : Bool :=
  (!r.pair || e % 2 == 0)
    && (r.inWidth r.offset && r.inWidth r.high && r.inWidth r.low)
    && decide ((r.hysteresis : Int) ≤ r.widthMax)
    && (!(r.highCheck && r.lowCheck)
        || decide (r.low < r.high ∧ 2 * (r.hysteresis : Int) ≤ r.high - r.low))

/-! ## Settings record (Table 20) -/

/-- The code of a tick period. -/
def TickPeriod.code : TickPeriod → Byte
  | .us100 => 0
  | .ms1 => 1
  | .ms10 => 2
  | .ms100 => 3

/-- The tick period of a code; a code above 3 names none (R25). -/
def TickPeriod.ofCode : Nat → Option TickPeriod
  | 0 => some .us100
  | 1 => some .ms1
  | 2 => some .ms10
  | 3 => some .ms100
  | _ => none

/-- The clock periods of a tick period (R179). -/
def TickPeriod.clocks : TickPeriod → Nat
  | .us100 => 1600
  | .ms1 => 16000
  | .ms10 => 160000
  | .ms100 => 1600000

/-- Whether group g is in LATCH mode. -/
def Settings.latch (x : Settings) (g : Nat) : Bool := x.trip.getLsbD g

/-- Whether the polarity of group g is asserted high. -/
def Settings.assertedHigh (x : Settings) (g : Nat) : Bool := x.trip.getLsbD (4 + g)

/-- The 5 bytes of a settings record. -/
def Settings.bytes (x : Settings) : List Byte :=
  [x.tickPeriod.code, BitVec.ofNat 8 x.retryInterval, BitVec.ofNat 8 x.retryLimit,
    BitVec.ofNat 8 x.fieldLineClass.code, x.trip]

/-- The settings record that 5 bytes encode; none where a check of R25 fails. -/
def decodeSettings (bytes : List Byte) : Option Settings :=
  match bytes with
  | [period, interval, limit, fieldClass, trip] =>
    match TickPeriod.ofCode period.toNat, EventClass.ofCode fieldClass.toNat with
    | some p, some c =>
      if interval ≠ 0 ∧ limit.toNat ≤ 15 then some ⟨p, interval.toNat, limit.toNat, c, trip⟩ else none
    | _, _ => none
  | _ => none

end Sys2Proof.Machine
end

