-- ==== Sys2Proof/Machine/Flags.lean ====
section
/-! DEFINITION. The conditions the rules read off the state: mapping, pairing, units, watching, tripping, the trip lines,
the claims on the H transmitter and the arbiter's choice. -/

namespace Sys2Proof.Machine

open Sys2Proof

/-! ## The table and the map -/

/-- Entry e of the table. -/
def State.entry (s : State) (e : Nat) : Entry := s.table.getD e Entry.initial

/-- The entry a key names, if it is in the map (R40). -/
def State.lookup (s : State) (node channel : Nat) : Option Nat :=
  (s.map.find? (fun k => k.node == node && k.channel == channel)).map (·.entry)

/-- Whether a key names the entry (R39). -/
def State.mapped (s : State) (e : Nat) : Bool := s.map.any (·.entry == e)

/-- Whether the entry is the upper half of a pair: it is odd and the entry below has pair yes in its live slot (R36). -/
def State.pairedUpper (s : State) (e : Nat) : Bool := e % 2 == 1 && (s.entry (e - 1)).live.pair

/-- Whether even entry e forms a two-entry commit unit with e + 1 (R38). -/
def State.pairUnit (s : State) (e : Nat) : Bool := (s.entry e).live.pair || (s.entry e).staging.pair

/-- Whether the entry is the upper entry of its commit unit (R38). -/
def State.unitUpper (s : State) (e : Nat) : Bool := e % 2 == 1 && s.pairUnit (e - 1)

/-- The lower, or only, entry of the commit unit of e (R38). -/
def State.unitLower (s : State) (e : Nat) : Nat := if s.unitUpper e then e - 1 else e

/-- The entries of the commit unit of e, ascending (R38). -/
def State.unit (s : State) (e : Nat) : List Nat :=
  let b := s.unitLower e
  if b % 2 == 0 && s.pairUnit b then [b, b + 1] else [b]

/-- Whether the timebase ages the entry: mapped, enabled and not paired-upper (section 6.2). -/
def State.watched (s : State) (e : Nat) : Bool :=
  s.mapped e && (s.entry e).live.enable && !s.pairedUpper e

/-- The waiting count: entries in the waiting set (R104). -/
def State.waitingCount (s : State) : Nat := s.table.countP (·.run.waiting)

/-- Whether a tick's comparison makes the entry STALE: watched, a nonzero limit reached, not STALE already (R92). -/
def State.staleReached (s : State) (e : Nat) : Bool :=
  s.watched e && (s.entry e).live.staleLimit != 0 && decide ((s.entry e).live.staleLimit ≤ (s.entry e).run.age)
    && (s.entry e).run.condition != .stale

/-! ## Tripping and the trip lines -/

/-- The trip group the entry is a member of (R67). -/
def State.memberOf (s : State) (e : Nat) : Option Nat :=
  if s.watched e then (s.entry e).live.tripGroup else none

/-- Whether a condition is among a record's trip conditions (R67). -/
def ConfigRecord.tripsOn (r : ConfigRecord) : Condition → Bool
  | .high => r.tripHigh
  | .highClearing => r.tripHigh
  | .low => r.tripLow
  | .lowClearing => r.tripLow
  | .stale => r.tripStale
  | .idle => false
  | .normal => false
  | .rising => false
  | .falling => false

/-- Whether entry e trips group g (R67). -/
def State.trips (s : State) (g e : Nat) : Bool :=
  s.memberOf e == some g && (s.entry e).live.tripsOn (s.entry e).run.condition

/-- The entries that trip group g, ascending. -/
def State.trippingSet (s : State) (g : Nat) : List Nat := (List.range Config.entryCount).filter (s.trips g)

/-- Group g. -/
def State.group (s : State) (g : Nat) : TripGroup := s.groups.getD g TripGroup.cleared

/-- The state of a group after its tripping set has changed (Table 57). -/
def GroupState.judge (latch : Bool) (before : GroupState) (setEmpty : Bool) : GroupState :=
  if !setEmpty then .asserted
  else if !latch then .clear
  else
    match before with
    | .clear => .clear
    | .asserted => .latched
    | .latched => .latched

/-- The code of a group state in the group-states byte (Table 16). -/
def GroupState.code : GroupState → Nat
  | .clear => 0
  | .asserted => 1
  | .latched => 2

/-- The group-states byte (Table 16). -/
def State.groupStates (s : State) : Byte :=
  BitVec.ofNat 8 ((s.group 0).state.code + 4 * (s.group 1).state.code + 16 * (s.group 2).state.code
    + 64 * (s.group 3).state.code)

/-- Whether the device runs: the power-on hold is over and RSTn is high. -/
def State.running (s : State) : Bool := s.power == .running && s.rstn

/-- The level of trip line g (R140); while a reset holds, the deasserted level (R141). -/
def State.tripLine (s : State) (g : Nat) : Level :=
  let assertedNow := s.running && (s.group g).state != .clear
  if assertedNow == s.agent.settings.assertedHigh g then .high else .low

/-! ## Ports and queues -/

/-- The sides of a port. -/
def State.port (s : State) : Port → PortSides
  | .h => s.hPort
  | .f => s.fPort

/-- Whether the receive side has a frame in reception. -/
def RxSide.receiving (r : RxSide) : Bool :=
  match r.reception with
  | .inFrame _ => true
  | .between => false
  | .refused => false

/-- Inbound buffers in use: the queue proper and the buffer in reception (R79). -/
def State.inboundInUse (s : State) : Nat := s.inbound.length + (if s.fPort.rx.receiving then 1 else 0)

/-- IDLE symbols a transmitter has still to send before its next START: the rest of its gap, and of the run of 32 where
the long-gap count has reached 16 (R1). -/
def TxSide.gapRemaining (t : TxSide) : Nat :=
  if t.longGap = Config.longGapLimit then max t.gapLeft (Config.idleRunLength - t.idleRun) else t.gapLeft

/-! ## Claims on the H transmitter -/

/-- Whether a frame of the list holds an URGENT record. -/
def ReportFrame.urgent (f : ReportFrame) : Bool := f.records.any (·.urgent)

/-- Whether the URGENT report claim is present (R123). -/
def State.urgentClaim (s : State) : Bool :=
  s.agent.address.isSome
    && (s.report.unacked.any (fun f => f.due && f.urgent)
        || (decide (s.report.unacked.length < Config.unackedCapacity) && s.report.queue.any (·.urgent)))

/-- Whether the ROUTINE report claim is present (R123). -/
def State.routineClaim (s : State) : Bool :=
  s.agent.address.isSome
    && (s.report.unacked.any (fun f => f.due && !f.urgent)
        || (decide (s.report.unacked.length < Config.unackedCapacity) && !s.report.queue.isEmpty))

/-- Whether the response claim is present (R144). -/
def State.responseClaim (s : State) : Bool := !s.agent.responses.isEmpty && s.agent.address.isSome

/-- Whether the transit claim is present: the head frame of the queue proper is READY (R82). -/
def State.transitClaim (s : State) : Bool :=
  match s.inbound with
  | f :: _ => f.state == .ready
  | [] => false

/-- The claims of Table 62. -/
inductive ClaimKind where
  | urgent | response | transit | routine
deriving DecidableEq, Repr

/-- The arbiter's choice among the present claims (Table 63, R146). -/
def State.choice (s : State) : Option ClaimKind :=
  if s.urgentClaim then some .urgent
  else if s.promotion == Config.promotionLimit && s.routineClaim then some .routine
  else if s.responseClaim then some .response
  else if s.transitClaim then some .transit
  else if s.routineClaim then some .routine
  else none

/-- Whether a transmitter is idle (R13, R14, R145): no frame in transmission, and the gap after the last END sent. -/
def TxSide.isIdle (t : TxSide) : Bool := t.frame.isNone && t.gapRemaining == 0

/-- The conditions of a grant on the line and the transmitter (R145): running, the H transmitter idle, the H line UP. -/
def State.grantPossible (s : State) : Bool := s.running && s.hPort.tx.isIdle && s.hPort.rx.state == .up

end Sys2Proof.Machine
end

