-- ==== Sys2Proof/Machine/Ops.lean ====
section
/-! DEFINITION. The shared operations: saturating counts, entries and run states, the report queue, the switch of a commit
unit, the hand-over to the trip groups, the work of a tick, and the wrapper that every command goes through. -/

namespace Sys2Proof.Machine

open Sys2Proof

/-! ## Counts (scope, section 5.1) -/

/-- Add k to a count that stays at its largest value. -/
def satAdd (most count k : Nat) : Nat := min most (count + k)

/-- Add 1 to one of the five counters (R161). -/
def countUp (count : Nat) : Nat := satAdd Config.counterMax count 1

/-- Count a frame abandoned or discarded at a receive side (Table 7). -/
def State.countDiscard (s : State) (p : Port) : State :=
  let c := s.agent.counters
  match p with
  | .h => { s with agent := { s.agent with counters := { c with hReceiveDiscards := countUp c.hReceiveDiscards } } }
  | .f => { s with agent := { s.agent with counters := { c with fReceiveDiscards := countUp c.fReceiveDiscards } } }

/-- Count a frame refused an inbound buffer (R8). -/
def State.countInboundDrop (s : State) : State :=
  let c := s.agent.counters
  { s with agent := { s.agent with counters := { c with inboundDrops := countUp c.inboundDrops } } }

/-- Count a frame discarded because the outbound queue was full (R160). -/
def State.countOutboundDrop (s : State) : State :=
  let c := s.agent.counters
  { s with agent := { s.agent with counters := { c with outboundDrops := countUp c.outboundDrops } } }

/-- Count an addressed request dropped because the response queue was full (R156). -/
def State.countDroppedRequest (s : State) : State :=
  let c := s.agent.counters
  { s with agent := { s.agent with counters := { c with droppedRequests := countUp c.droppedRequests } } }

/-! ## Ports and queues -/

/-- Replace the receive side of a port. -/
def State.setRx (s : State) (p : Port) (r : RxSide) : State :=
  match p with
  | .h => { s with hPort := { s.hPort with rx := r } }
  | .f => { s with fPort := { s.fPort with rx := r } }

/-- Replace the transmit side of a port. -/
def State.setTx (s : State) (p : Port) (t : TxSide) : State :=
  match p with
  | .h => { s with hPort := { s.hPort with tx := t } }
  | .f => { s with fPort := { s.fPort with tx := t } }

/-- Place a frame in the outbound queue, or discard and count it where the queue is full (R160). -/
def State.sendOutward (s : State) (bytes : List Byte) : State :=
  if s.agent.outbound.length < Config.outboundCapacity then
    { s with agent := { s.agent with outbound := s.agent.outbound ++ [⟨bytes, false⟩] } }
  else s.countOutboundDrop

/-- Append a response to the response queue (R158). -/
def State.respond (s : State) (r : Response) : State :=
  { s with agent := { s.agent with responses := s.agent.responses ++ [r] } }

/-! ## Entries and run states -/

/-- Apply a function to every entry with its number, counting from the number given. -/
def mapEntries (f : Nat → Entry → Entry) : Nat → List Entry → List Entry
  | _, [] => []
  | e, x :: rest => f e x :: mapEntries f (e + 1) rest

/-- Change one entry's run state. -/
def State.modifyRun (s : State) (e : Nat) (f : RunState → RunState) : State :=
  { s with table := s.table.modify e (fun x => { x with run := f x.run }) }

/-- The condition becomes IDLE: persistence count, schedule position and age become 0 with it (R32, R91), and the last
value becomes absent (R37, R102). -/
def RunState.toIdle (r : RunState) : RunState :=
  { r with condition := .idle, persistence := 0, position := 0, age := 0, lastValue := none }

/-- A run-state reset (R33): live generation and waiting flag stay. -/
def RunState.cleared (r : RunState) : RunState :=
  { RunState.initial with generation := r.generation, waiting := r.waiting }

/-- The transient reduction at a switch (Table 45). -/
def Condition.reduced : Condition → Condition
  | .rising => .normal
  | .falling => .normal
  | .highClearing => .high
  | .lowClearing => .low
  | .idle => .idle
  | .normal => .normal
  | .high => .high
  | .low => .low
  | .stale => .stale

/-! ## The report queue (chapter 8) -/

/-- An event handed to the report unit (section 8.2). -/
structure Event where
  subject : Subject
  kind : EventKind
  eventClass : EventClass
  generation : Byte
  value : Option Int
  extra : Option Nat
deriving DecidableEq, Repr

/-- The record an event creates (R114). -/
def Event.record (ev : Event) : ReportRecord :=
  ⟨ev.subject, ev.kind, ev.kind, ev.eventClass == .urgent, 1, ev.generation, ev.value, ev.extra⟩

/-- A record after an event coalesces into it (R118, R119). -/
def ReportRecord.coalesce (r : ReportRecord) (ev : Event) : ReportRecord :=
  { r with
    lastKind := ev.kind
    urgent := r.urgent || ev.eventClass == .urgent
    repeatCount := satAdd Config.byteMax r.repeatCount 1
    generation := ev.generation
    value := ev.value
    extra := ev.extra }

/-- The LOSS record after k more records are lost (R121). -/
def ReportRecord.addLoss (r : ReportRecord) (c : Byte) (k : Nat) : ReportRecord :=
  { r with
    lastKind := .lost
    urgent := true
    repeatCount := satAdd Config.byteMax r.repeatCount 1
    generation := c
    extra := some (satAdd Config.counterMax (r.extra.getD 0) k) }

/-- Whether the queue holds a record of the subject. -/
def holdsSubject (q : List ReportRecord) (x : Subject) : Bool := q.any (·.subject == x)

/-- Add k to the loss, under committed generation c (R121). -/
def addLoss (c : Byte) (k : Nat) (q : List ReportRecord) : List ReportRecord :=
  if holdsSubject q .loss then q.map (fun r => if r.subject = .loss then r.addLoss c k else r)
  else q ++ [⟨.loss, .lost, .lost, true, 1, c, none, some (satAdd Config.counterMax 0 k)⟩]

/-- Records in general slots: every record but LOSS (R113). -/
def generalRecords (q : List ReportRecord) : Nat := q.countP (·.subject != .loss)

/-- Place an URGENT or ROUTINE event in the report queue: the first case of R117 that applies. -/
def placeEvent (c : Byte) (ev : Event) (q : List ReportRecord) : List ReportRecord :=
  if holdsSubject q ev.subject then q.map (fun r => if r.subject = ev.subject then r.coalesce ev else r)
  else if generalRecords q < Config.generalSlots then q ++ [ev.record]
  else if ev.eventClass = .urgent ∧ q.any (fun r => !r.urgent) then
    addLoss c 1 (q.eraseP (fun r => !r.urgent) ++ [ev.record])
  else addLoss c 1 q

/-- The event tally and last event kind of a channel event (R116); a stage event has no entry. -/
def State.tally (s : State) (ev : Event) : State :=
  match ev.subject with
  | .entry e => s.modifyRun e (fun r => { r with tally := satAdd Config.byteMax r.tally 1, lastKind := some ev.kind })
  | .fieldLine => s
  | .commit => s
  | .loss => s
  | .restart => s

/-- The report unit takes an event: the tally, and for a class other than SILENT the queue (R116, R117). -/
def State.raise (s : State) (ev : Event) : State :=
  let t := s.tally ev
  if ev.eventClass = .silent then t
  else { t with report := { t.report with queue := placeEvent s.commit.generation ev t.report.queue } }

/-- Add k to the loss of the report unit (R121). -/
def State.lose (s : State) (k : Nat) : State :=
  { s with report := { s.report with queue := addLoss s.commit.generation k s.report.queue } }

/-- The class of a channel event, from the entry's live slot (R115). -/
def ConfigRecord.eventClass (r : ConfigRecord) : EventKind → EventClass
  | .enterHigh => r.limitClass
  | .enterLow => r.limitClass
  | .returned => r.returnClass
  | .stale => r.staleClass
  | .resume => r.staleClass
  | .split => .routine
  | .fieldDown => .routine
  | .fieldUp => .routine
  | .commitDone => .routine
  | .lost => .routine
  | .restarted => .routine

/-- Raise a channel event on entry e (R64, R92). -/
def State.raiseChannel (s : State) (e : Nat) (kind : EventKind) (value : Option Int) : State :=
  s.raise ⟨.entry e, kind, (s.entry e).live.eventClass kind, (s.entry e).run.generation, value, none⟩

/-- Raise FIELD-DOWN or FIELD-UP (R6). -/
def State.raiseFieldLine (s : State) (kind : EventKind) : State :=
  s.raise ⟨.fieldLine, kind, s.agent.settings.fieldLineClass, s.commit.generation, none, none⟩

/-- Raise RESTARTED with the reset cause as extra (R133, R134). -/
def State.raiseRestarted (s : State) (cause : ResetCause) : State :=
  s.raise ⟨.restart, .restarted, .urgent, s.commit.generation, none, some cause.code⟩

/-! ## The switch of a commit unit (R101, R102) -/

/-- Entry e after the switch of its unit in state s: staging copied, generation C, not waiting, transients reduced, and
the effects of the new record and of a pairing that begins or ends. A switch out of turn sets the position to 0; any other
keeps it, but that an IDLE entry whose position lies past the new period starts from 0, so that the position is in range
(R32, R102; DEDUCED, assumption 12). A switch that leaves the entry watched keeps its age (R91, R93); one that finds it IDLE
and not watched leaves it IDLE with age 0, from which it ages once it is watched (R102; DEDUCED, assumption 13). -/
def State.switchedEntry (s : State) (outOfTurn : Bool) (e : Nat) (x : Entry) : Entry :=
  let pairedBefore := s.pairedUpper e
  let pairedAfter := e % 2 == 1 && (s.entry (e - 1)).staging.pair
  let reduced :=
    { x.run with
      generation := s.commit.generation
      waiting := false
      condition := x.run.condition.reduced
      persistence := 0 }
  let settled := if pairedBefore != pairedAfter || !x.staging.enable then reduced.toIdle else reduced
  { x with
    live := x.staging
    run :=
      { settled with
        position :=
          if outOfTurn || (settled.condition == .idle && decide (x.staging.period ≤ settled.position)) then 0
          else settled.position
        age := if settled.condition == .idle && !s.watched e then 0 else settled.age } }

/-- Switch every entry that the selection names; the selection holds whole units. -/
def State.switchEntries (s : State) (chosen : Nat → Entry → Bool) (outOfTurn : Bool) : State :=
  { s with table := mapEntries (fun e x => if chosen e x then s.switchedEntry outOfTurn e x else x) 0 s.table }

/-- Switch the commit unit of entry e. -/
def State.switchUnit (s : State) (e : Nat) (outOfTurn : Bool) : State :=
  s.switchEntries (fun i _ => (s.unit e).contains i) outOfTurn

/-- The commit completes: IDLE, deadline remaining 0, and COMMIT-DONE with the forced count (R107). -/
def State.completeCommit (s : State) : State :=
  { s with commit := { s.commit with pending := false, deadline := 0 } }.raise
    ⟨.commit, .commitDone, .routine, s.commit.generation, none, some s.commit.forcedCount⟩

/-- Complete a pending commit whose waiting set has become empty (R107). -/
def State.completeIfEmpty (s : State) : State :=
  if s.commit.pending ∧ s.waitingCount = 0 then s.completeCommit else s

/-- Force every waiting unit, out of turn, and set the forced count (R106). -/
def State.forceWaiting (s : State) : State :=
  let t := s.switchEntries (fun _ x => x.run.waiting) true
  { t with commit := { t.commit with forcedCount := s.waitingCount } }

/-! ## The hand-over to the trip groups (R68, R135, R136) -/

/-- Group g after the hand-over at the end of a claim: it takes the tripping members as they then stand, and judges its
state where its set has changed. -/
def State.handGroup (s : State) (g : Nat) (x : TripGroup) : TripGroup :=
  let set := s.trippingSet g
  if set = x.set then x else ⟨set, x.state.judge (s.agent.settings.latch g) set.isEmpty⟩

/-- Hand the tripping status of the entries to the trip groups. -/
def State.handOver (s : State) : State :=
  { s with groups := s.groups.zipIdx.map (fun x => s.handGroup x.2 x.1) }

/-! ## The work of a tick (chapter 6, R105, R126) -/

/-- The entry becomes STALE and raises STALE, where the comparison of R92 holds. -/
def State.makeStale (s : State) (e : Nat) : State :=
  if s.staleReached e then
    (s.modifyRun e (fun r => { r with condition := .stale, persistence := 0 })).raiseChannel e .stale none
  else s

/-- The entries of the tick claim still to become STALE, up to and with entry e, become so in ascending order (R92); the
claim's hand-over comes at its end (R68). -/
def State.staleUpTo (s : State) (e : Nat) : State :=
  let now := s.staleDue.takeWhile (fun i => i ≤ e)
  let later := s.staleDue.dropWhile (fun i => i ≤ e)
  let t := { now.foldl State.makeStale s with staleDue := later }
  if later.isEmpty then t.handOver else t

/-- Finish the table's tick claim. -/
def State.finishStale (s : State) : State :=
  if s.staleDue.isEmpty then s
  else { s.staleDue.foldl State.makeStale s with staleDue := [] }.handOver

/-- Whether a deadline step has brought the deadline of a pending commit to 0, so that forcing follows (R105). -/
def State.forcingDue (s : State) : Bool := s.commit.pending && s.commit.deadline == 0

/-- The forcing at the end of a deadline, the commit's completion and the hand-over (R106). -/
def State.forceIfDue (s : State) : State :=
  if s.forcingDue then s.forceWaiting.completeCommit.handOver else s

/-- The frames of the list older than the first that satisfies p, with that frame; the rest after it. -/
def splitThrough (p : ReportFrame → Bool) : List ReportFrame → List ReportFrame × List ReportFrame
  | [] => ([], [])
  | f :: rest => if p f then ([f], rest) else ((splitThrough p rest).1.cons f, (splitThrough p rest).2)

/-- Drop frames from the list, adding the records each held to the loss, oldest first (R128, R134). -/
def State.loseFrames (s : State) (frames : List ReportFrame) : State :=
  frames.foldl (fun t f => t.lose f.records.length) s

/-- The expiry of the frame with this sequence: due for retransmission (R127), or discarded with every older frame
(R128). -/
def State.expire (s : State) (sequence : Byte) : State :=
  match s.report.unacked.find? (fun f => f.sequence == sequence && f.expired) with
  | none => s
  | some f =>
    if f.sendCount < 1 + s.agent.settings.retryLimit then
      { s with
        report := { s.report with
          unacked := s.report.unacked.map
            (fun x => if x.sequence == sequence && x.expired then { x with due := true, expired := false } else x) } }
    else
      let parts := splitThrough (fun x => x.sequence == sequence && x.expired) s.report.unacked
      { s with report := { s.report with unacked := parts.2 } }.loseFrames parts.1

/-- The expiries of a tick step not yet applied, oldest frame first. -/
def State.expireAll (s : State) : State :=
  ((s.report.unacked.filter (·.expired)).map (·.sequence)).foldl State.expire s

/-- Finish what the last tick has left to do. A tick claim is taken whole (R35, R105, R126), so every other claim finds this
done. R96, R97 and R131 let the STALE events, the forcing with its COMMIT-DONE and a discard at the retry limit reach the
report queue in any order; the model takes the STALE entries, then the forcing, then the expiries (DESIGN CHOICE,
assumptions 2 and 7). -/
def State.finishTick (s : State) : State := s.finishStale.forceIfDue.expireAll

/-- The tick leaves nothing to do. -/
def State.tickDone (s : State) : Bool :=
  s.staleDue.isEmpty && !s.forcingDue && !s.report.unacked.any (·.expired)

/-! ## The wrapper of a command -/

/-- The promotion counter returns to 0 where the ROUTINE report claim is absent (R147). -/
def State.withdrawPromotion (s : State) : State :=
  if s.routineClaim then s else { s with promotion := 0 }

/-- A command taken whole: the tick's work first, then the command's own effect, then the withdrawal of the promotion. -/
def takeClaim (effect : State → State) (s : State) : Host.Outcome State Fault Refusal :=
  .next (effect s.finishTick).withdrawPromotion

/-- A command that does not wait for the tick's work: a part of that work, or a power-on that ends it. -/
def takeNow (effect : State → State) (s : State) : Host.Outcome State Fault Refusal :=
  .next (effect s).withdrawPromotion

end Sys2Proof.Machine
end

