-- ==== Sys2Proof/Machine/Resets.lean ====
section
/-! DEFINITION. The four reset kinds (scope, section 5.4): what each leaves in every block, and the commands of the power
supply and of the pin RSTn. -/

namespace Sys2Proof.Machine

open Sys2Proof

/-- A pin or request reset first completes a pending commit by forcing, with no COMMIT-DONE (R111). -/
def State.forceForReset (s : State) : State :=
  if s.commit.pending then
    let t := s.forceWaiting
    { t with commit := { t.commit with pending := false, deadline := 0 } }
  else s

/-- Every entry receives a run-state reset with live generation C and waiting no (R44). -/
def State.clearRuns (s : State) : State :=
  { s with
    table := s.table.map fun x =>
      { x with run := { x.run.cleared with generation := s.commit.generation, waiting := false } } }

/-- Every trip group becomes CLEAR with an empty tripping set (R143). -/
def State.clearGroups (s : State) : State := { s with groups := s.groups.map fun _ => TripGroup.cleared }

/-- A frame in reception is abandoned without a count, and symbols are ignored until the next START (R17). -/
def RxSide.abandoned (r : RxSide) : RxSide := { r with reception := .between }

/-- The inbound queue is emptied and a frame in reception at a port is abandoned without a count (R85, R17). -/
def State.emptyInbound (s : State) : State :=
  { s with
    inbound := []
    hPort := { s.hPort with rx := s.hPort.rx.abandoned }
    fPort := { s.fPort with rx := s.fPort.rx.abandoned } }

/-- The report queue and the unacknowledged list are emptied, and the next report sequence becomes 0 (R133). -/
def State.emptyReports (s : State) : State := { s with report := ⟨[], [], 0⟩ }

/-- The agent's queues and recent-request list are emptied, and the promotion counter becomes 0 (R164, R150). -/
def State.emptyAgent (s : State) : State :=
  { s with promotion := 0, agent := { s.agent with responses := [], recent := [], outbound := [] } }

/-- The last reset cause is set, and RESTARTED is raised with it (R162). -/
def State.restart (s : State) (cause : ResetCause) : State :=
  { s with agent := { s.agent with lastCause := cause } }.raiseRestarted cause

/-- The steps of R176 that come before the answer to the RESET. -/
def State.requestReset (s : State) : State :=
  s.forceForReset.clearRuns.clearGroups.emptyInbound.emptyReports.emptyAgent.restart .request

/-- The head-loss reset (R7): the inbound queue, the agent's queues and list and the address go, the unacknowledged frames
are added to the loss, and RESTARTED is placed; table, map, commit, groups, settings and counters are kept. -/
def State.headLossReset (s : State) : State :=
  let t := s.emptyInbound
  let lost := { t with report := { t.report with unacked := [] } }.loseFrames t.report.unacked
  let u := { lost with report := { lost.report with nextSequence := 0 } }.emptyAgent
  { u with agent := { u.agent with address := none } }.restart .headLoss

/-- A transmitter that sends no symbols, its frame cut and its long-gap count 0 (R16). -/
def TxSide.cut : TxSide := { TxSide.fresh with out := .silence }

/-- The ports while RSTn is low: transmitters silent, receive sides DOWN (R16). -/
def State.silencePorts (s : State) : State :=
  { s with
    hPort := { s.hPort with rx := RxSide.inDown, tx := TxSide.cut }
    fPort := { s.fPort with rx := RxSide.inDown, tx := TxSide.cut } }

/-- RSTn goes low on a running device: the pin column of every chapter's reset table. -/
def State.pinResetStart (s : State) : State :=
  let t := { s.forceForReset.clearRuns.clearGroups.emptyInbound.emptyReports.emptyAgent.silencePorts with rstn := false }
  { t with agent := { t.agent with address := none, counters := Counters.zero } }.restart .pin

/-- The transmitters start sending IDLE and the receive sides begin from DOWN (R16); the tick generator starts from 0
(R89). -/
def State.startPorts (s : State) : State :=
  { s with
    hPort := { s.hPort with rx := RxSide.inDown, tx := TxSide.fresh }
    fPort := { s.fPort with rx := RxSide.inDown, tx := TxSide.fresh }
    elapsed := 0 }

/-- The device at the end of the power-on hold, what the lines bring and the command queue apart (R178). -/
def State.holdEnd (s : State) : State :=
  { State.reset with
    hPort := { State.reset.hPort with line := s.hPort.line }
    fPort := { State.reset.fPort with line := s.fPort.line }
    pending := s.pending }

/-- The device when power is applied: held, every block at its power-on value, the pin RSTn at the level it has (R178). -/
def State.powerApplied (s : State) : State :=
  { s.holdEnd.silencePorts with power := .hold 0, rstn := s.rstn }

/-- Supply and clock have been stable for 2 ms: the hold ends if RSTn is high, and otherwise lasts until it is (R178). -/
def State.powerStable (s : State) : State :=
  match s.power with
  | .hold _ => if s.rstn then s.holdEnd else { s with power := .hold Config.holdClocks }
  | .running => s

/-- RSTn goes low (R16); during a power-on hold this is part of that hold (R162). -/
def State.rstnLow (s : State) : State :=
  if s.rstn then
    match s.power with
    | .hold _ => { s with rstn := false }
    | .running => s.pinResetStart
  else s

/-- RSTn returns high: a pin reset ends (R16), or a power-on hold whose 2 ms have passed (R178). -/
def State.rstnHigh (s : State) : State :=
  if s.rstn then s
  else
    match s.power with
    | .hold stable => if Config.holdClocks ≤ stable then s.holdEnd else { s with rstn := true }
    | .running => { s.startPorts with rstn := true }

/-- POWER_ON_RESET (R16, R178). -/
def execPowerOnReset (s : State) : Host.Outcome State Fault Refusal := takeNow State.powerApplied s

/-- POWER_ON_HOLD_END (R178). -/
def execPowerOnHoldEnd (s : State) : Host.Outcome State Fault Refusal := takeNow State.powerStable s

/-- PIN_RESET (R16); a low level shorter than 100 ns is ignored (R179). -/
def execPinReset (lowNs : Nat) (s : State) : Host.Outcome State Fault Refusal :=
  takeClaim (fun t => if Config.rstnMinNs ≤ lowNs then t.rstnLow else t) s

/-- PIN_RESET_RELEASE (R16). -/
def execPinResetRelease (s : State) : Host.Outcome State Fault Refusal := takeClaim State.rstnHigh s

end Sys2Proof.Machine
end

