-- ==== Sys2Proof/Machine/Agent.lean ====
section
/-! DEFINITION. The management agent (chapter 11): the intake of a request with its four checks, duplicates, broadcasts and
forwarding, and enumeration. -/

namespace Sys2Proof.Machine

open Sys2Proof

/-- What the execution of an operation answers: status, payload, and the state with the operation's change made. -/
structure Reply where
  status : Status
  payload : List Byte
  state : State
deriving DecidableEq, Repr

/-- A refusal: an empty payload, and nothing changed (R165). -/
def Reply.refuse (status : Status) (s : State) : Reply := ⟨status, [], s⟩

/-- An operation of Table 16: code, operand length, whether operands make the request mutating (R156), whether a broadcast
executes it (R159), whether its execution is recorded (R157, R164), and its execution. -/
structure Operation where
  code : Byte
  operandLength : Nat
  mutating : List Byte → Bool
  broadcast : Bool
  recorded : Bool
  perform : List Byte → State → Reply

/-- The status stored for a tag in the recent-request list (R157). -/
def State.recentStatus (s : State) (tag : Byte) : Option Status :=
  (s.agent.recent.find? (fun x => x.1 == tag)).map (·.2)

/-- Record an executed mutating request; at four entries the oldest leaves first (R157). -/
def State.record (s : State) (tag : Byte) (status : Status) : State :=
  let l := s.agent.recent
  let kept := if l.length < Config.recentCapacity then l else l.drop (l.length + 1 - Config.recentCapacity)
  { s with agent := { s.agent with recent := kept ++ [(tag, status)] } }

/-- A response whose address is written at its grant (R23, R158). -/
def answer (tag op : Byte) (status : Status) (repeated : Bool) (payload : List Byte) : Response :=
  ⟨tag, op, status, repeated, payload, none, false⟩

/-- An addressed request that has found room in the response queue, with an operation code of Table 16: the length check,
the duplicate check, and the execution (R156, R165). -/
def State.answerRequest (s : State) (o : Operation) (tag : Byte) (operands : List Byte) : State :=
  if operands.length ≠ o.operandLength then s.respond (answer tag o.code .length false [])
  else
    match (if o.mutating operands then s.recentStatus tag else none) with
    | some status => s.respond (answer tag o.code status true [])
    | none =>
      let r := o.perform operands s
      let t := r.state.respond (answer tag o.code r.status false r.payload)
      if o.mutating operands && o.recorded then t.record tag r.status else t

/-- A request addressed to this stage (R156): dropped where the response queue is full, answered otherwise. -/
def State.addressedRequest (s : State) (o : Option Operation) (tag op : Byte) (operands : List Byte) : State :=
  if Config.responseCapacity ≤ s.agent.responses.length then s.countDroppedRequest
  else
    match o with
    | none => s.respond (answer tag op .unknownOp false [])
    | some o => s.answerRequest o tag operands

/-- A broadcast request: executed where it is one that broadcasts execute and its operand length suits (R159). -/
def State.broadcastRequest (s : State) (o : Option Operation) (operands : List Byte) : State :=
  match o with
  | none => s
  | some o => if o.broadcast && operands.length == o.operandLength then (o.perform operands s).state else s

/-- Request intake (R155): addressed, broadcast, or for another stage. -/
def State.takeRequest (s : State) (o : Option Operation) (target tag op : Byte) (operands : List Byte) : State :=
  if s.agent.address = some target then s.addressedRequest o tag op operands
  else if target = 31 then (s.broadcastRequest o operands).sendOutward (requestFrameBytes target tag op operands)
  else s.sendOutward (requestFrameBytes target tag op operands)

/-! ## Enumeration (section 11.2) -/

/-- Whether the stage is a candidate for an enumeration of this mode (R153). -/
def State.candidate (s : State) (mode : Byte) : Bool := mode == 1 || s.agent.address.isNone

/-- Whether the stage takes the next address (R153). -/
def State.takesAddress (s : State) (mode next : Byte) : Bool :=
  s.candidate mode && next != 31 && decide (s.agent.responses.length < Config.responseCapacity)

/-- The stage takes an address and queues its ADDRESSED response (R153). -/
def State.takeAddress (s : State) (address tag : Byte) : State :=
  { s with agent := { s.agent with address := some address } }.respond
    ⟨tag, 0, .addressed, false, [], some address, false⟩

/-- An ENUMERATION frame at the agent (R153), and its forwarding where it arrived with the exhausted flag clear (R154). -/
def State.enumerate (s : State) (mode next flags tag : Byte) : State :=
  let takes := s.takesAddress mode next
  let t := if takes then s.takeAddress next tag else s
  let next' := if takes then next + 1 else next
  let flags' := if s.candidate mode && next == 31 then flags ||| 1 else flags
  if flags.getLsbD 0 then t else t.sendOutward (enumerationFrameBytes mode next' flags' tag)

/-! ## Frames closed by END at the H port (R12) -/

/-- Whether the H receive side has a frame in reception. -/
def State.hReceiving (s : State) : Bool := s.hPort.rx.state == .up && s.hPort.rx.receiving

/-- END at the H port between frames is ignored; in UP it still counts as a recognised symbol. -/
def State.hFrameEndWith (s : State) (handOff : State → State) : State :=
  if s.hPort.rx.state = .up then
    let t := { s with hPort := { s.hPort with rx := { s.hPort.rx with silence := 0, reception := .between } } }
    if s.hPort.rx.receiving then handOff t else t
  else s

/-- END closes a REQUEST frame of these fields at the H port: the format check of R22, then request intake. -/
def State.requestEnd (s : State) (o : Option Operation) (target tag op : Byte) (operands : List Byte) : State :=
  s.hFrameEndWith fun t =>
    if requestFieldsOk target operands then t.takeRequest o target tag op operands else t.countDiscard .h

/-- END closes an ENUMERATION frame of these fields at the H port: the format check of R24, then the agent. -/
def State.enumerationEnd (s : State) (mode next flags tag : Byte) : State :=
  s.hFrameEndWith fun t =>
    if enumerationFieldsOk mode next flags then t.enumerate mode next flags tag else t.countDiscard .h

/-- ENUMERATION (R153). -/
def execEnumeration (mode next flags tag : Byte) (s : State) : Host.Outcome State Fault Refusal :=
  takeClaim (fun t => t.enumerationEnd mode next flags tag) s

end Sys2Proof.Machine
end

