-- ==== Sys2Proof/Machine/Ports.lean ====
section
/-! DEFINITION. The receive sides (chapter 1): line states, opening and abandoning a frame, and the frames that END closes
at the F port. -/

namespace Sys2Proof.Machine

open Sys2Proof

/-! ## Line states (section 1.2) -/

/-- The first recognised symbol at a DOWN receive side, while the device runs (R2). -/
def State.firstSymbol (s : State) (p : Port) (y : Symbol) : State :=
  if s.running && (s.port p).rx.state == .down then
    s.setRx p { RxSide.inDown with state := .acquiring, idleCount := if y = .idle then 1 else 0 }
  else s

/-- The idle count reaches 32: UP, between frames (R3); FIELD-UP at the F port (R6). -/
def State.acquired (s : State) (p : Port) : State :=
  if (s.port p).rx.state = .acquiring then
    let t := s.setRx p { RxSide.inDown with state := .up, idleCount := Config.idleRunLength }
    match p with
    | .h => t
    | .f => t.raiseFieldLine .fieldUp
  else s

/-- 4 µs without a recognised symbol in ACQUIRING: DOWN (R3); FIELD-DOWN at the F port (R6), nothing at the H port (R7). -/
def State.acquisitionLost (s : State) (p : Port) : State :=
  if (s.port p).rx.state = .acquiring then
    let t := s.setRx p RxSide.inDown
    match p with
    | .h => t
    | .f => t.raiseFieldLine .fieldDown
  else s

/-- 4 µs without a recognised symbol in UP: INTERRUPTED; a frame in reception is abandoned and counted, one that was
refused a buffer is not (R4). -/
def State.interrupted (s : State) (p : Port) : State :=
  let r := (s.port p).rx
  if r.state = .up then
    let t := if r.receiving then s.countDiscard p else s
    t.setRx p { r with state := .interrupted, silence := 0, lineDown := 0, reception := .between }
  else s

/-- A recognised symbol of any type in INTERRUPTED: UP, between frames, the line-down timer discarded (R5). -/
def State.resumed (s : State) (p : Port) : State :=
  let r := (s.port p).rx
  if r.state = .interrupted then s.setRx p { r with state := .up, silence := 0, lineDown := 0, reception := .between }
  else s

/-- The line-down timer reaches 10 ms: DOWN; FIELD-DOWN at the F port (R6), a head-loss reset at the H port (R7). -/
def State.lineLost (s : State) (p : Port) : State :=
  if (s.port p).rx.state = .interrupted then
    let t := s.setRx p RxSide.inDown
    match p with
    | .h => t.headLossReset
    | .f => t.raiseFieldLine .fieldDown
  else s

/-! ## Opening and abandoning a frame (section 1.3) -/

/-- A START in UP (R8): a frame in reception is abandoned and counted, then the new frame takes the H receive buffer or
claims an inbound buffer; a refused claim counts one inbound drop. -/
def State.openFrame (s : State) (p : Port) : State :=
  let r := (s.port p).rx
  if r.state = .up then
    let t := if r.receiving then s.countDiscard p else s
    match p with
    | .h => t.setRx .h { r with silence := 0, reception := .inFrame [] }
    | .f =>
      if s.inbound.length < Config.inboundBuffers then t.setRx .f { r with silence := 0, reception := .inFrame [] }
      else t.countInboundDrop.setRx .f { r with silence := 0, reception := .refused }
  else s

/-- A frame in reception is abandoned at once and counted once; symbols are then ignored until the next START (R9). A
coding violation is no recognised symbol, so it does not restart the 4 µs measurement (R4). -/
def State.abandonFrame (s : State) (p : Port) (cause : AbandonCause) : State :=
  let r := (s.port p).rx
  if r.state = .up ∧ r.receiving then
    (s.countDiscard p).setRx p
      { r with silence := if cause = .violation then r.silence else 0, reception := .between }
  else s

/-- END in UP returns a receive side to between frames, having restarted the 4 µs measurement. -/
def State.closeReception (s : State) (p : Port) : State :=
  s.setRx p { (s.port p).rx with silence := 0, reception := .between }

/-- END at the F port closes a frame of these bytes: the checks of R10, then the hand-off of R11. A frame that was refused
a buffer ends without a count (R8); between frames END is ignored. -/
def State.fFrameEnd (s : State) (bytes : List Byte) : State :=
  if s.fPort.rx.state = .up then
    let t := s.closeReception .f
    if s.fPort.rx.receiving then
      match checkFrame bytes with
      | some .sample => { t with inbound := t.inbound ++ [⟨.pending, bytes⟩] }
      | some .report => { t with inbound := t.inbound ++ [⟨.ready, bytes⟩] }
      | some .response => { t with inbound := t.inbound ++ [⟨.ready, bytes⟩] }
      | some .request => t.countDiscard .f
      | some .enumeration => t.countDiscard .f
      | none => t.countDiscard .f
    else t
  else s

/-! ## The commands -/

/-- FIRST_RECOGNISED_SYMBOL (R2). -/
def execFirstRecognisedSymbol (p : Port) (y : Symbol) (s : State) : Host.Outcome State Fault Refusal :=
  takeClaim (fun t => t.firstSymbol p y) s

/-- ACQUISITION_COMPLETE (R3). -/
def execAcquisitionComplete (p : Port) (s : State) : Host.Outcome State Fault Refusal :=
  takeClaim (fun t => t.acquired p) s

/-- ACQUISITION_TIMEOUT (R3). -/
def execAcquisitionTimeout (p : Port) (s : State) : Host.Outcome State Fault Refusal :=
  takeClaim (fun t => t.acquisitionLost p) s

/-- LINE_INTERRUPTED (R4). -/
def execLineInterrupted (p : Port) (s : State) : Host.Outcome State Fault Refusal :=
  takeClaim (fun t => t.interrupted p) s

/-- LINE_RESUMED (R5): the type of the symbol has no bearing. -/
def execLineResumed (p : Port) (_y : Symbol) (s : State) : Host.Outcome State Fault Refusal :=
  takeClaim (fun t => t.resumed p) s

/-- LINE_DOWN_TIMEOUT (R5). -/
def execLineDownTimeout (p : Port) (s : State) : Host.Outcome State Fault Refusal :=
  takeClaim (fun t => t.lineLost p) s

/-- FRAME_START (R8). -/
def execFrameStart (p : Port) (s : State) : Host.Outcome State Fault Refusal :=
  takeClaim (fun t => t.openFrame p) s

/-- FRAME_ABANDON (R9). -/
def execFrameAbandon (p : Port) (cause : AbandonCause) (s : State) : Host.Outcome State Fault Refusal :=
  takeClaim (fun t => t.abandonFrame p cause) s

/-- SAMPLE_FRAME (R11). -/
def execSampleFrame (bytes : List Byte) (s : State) : Host.Outcome State Fault Refusal :=
  takeClaim (fun t => t.fFrameEnd bytes) s

/-- TRANSIT_FRAME (R11). -/
def execTransitFrame (bytes : List Byte) (s : State) : Host.Outcome State Fault Refusal :=
  takeClaim (fun t => t.fFrameEnd bytes) s

end Sys2Proof.Machine
end

