-- ==== Sys2Proof/Machine/Qualifier.lean ====
section
/-! DEFINITION. The qualifier and the forwarding schedule (chapters 4 and 5): roles, pair matching, evaluation, the schedule
decision, the switch at a boundary, and the rewriting or dropping of the frame. -/

namespace Sys2Proof.Machine

open Sys2Proof

/-! ## Roles and arrivals (R46, R47, R48) -/

/-- The role of a sample: untouched, single on entry e, or lower or upper half of the pair whose lower entry is e. -/
inductive Role where
  | untouched
  | single (e : Nat)
  | lower (e : Nat)
  | upper (e : Nat)
deriving DecidableEq, Repr

/-- The role of a sample of a frame from an origin node (Table 31). -/
def State.roleOf (s : State) (node : Nat) (x : Sample) : Role :=
  if x.qualified then .untouched
  else
    match s.lookup node x.channel with
    | none => .untouched
    | some e =>
      if s.pairedUpper e then
        if s.mapped (e - 1) && (s.entry (e - 1)).live.enable then .upper (e - 1) else .untouched
      else if (s.entry e).live.enable then if (s.entry e).live.pair then .lower e else .single e
      else .untouched

/-- An arrival: a single sample at a place, a matched pair of the halves at two places, or a split half. -/
inductive Arrival where
  | single (e place : Nat)
  | matched (e lowerPlace upperPlace : Nat)
  | split (e place : Nat)
deriving DecidableEq, Repr

/-- The entry of an arrival; for a pair or a split half the lower entry. -/
def Arrival.entry : Arrival → Nat
  | .single e _ => e
  | .matched e _ _ => e
  | .split e _ => e

/-- The places of a role in a frame, ascending. -/
def placesOf (roles : List Role) (r : Role) : List Nat :=
  (List.range roles.length).filter (fun i => roles.getD i .untouched == r)

/-- The place of the half that matches the half at place i: its role's k-th occurrence goes with the partner role's k-th
(R48). -/
def partnerPlace (roles : List Role) (own partner : Role) (i : Nat) : Option Nat :=
  (placesOf roles partner)[(roles.take i).countP (· == own)]?

/-- The arrival taken at place i, if one is: a matched pair is taken at the place of the half that comes first (R47). -/
def arrivalAt (roles : List Role) (i : Nat) : Option Arrival :=
  match roles.getD i .untouched with
  | .untouched => none
  | .single e => some (.single e i)
  | .lower e =>
    match partnerPlace roles (.lower e) (.upper e) i with
    | some j => if i < j then some (.matched e i j) else none
    | none => some (.split e i)
  | .upper e =>
    match partnerPlace roles (.upper e) (.lower e) i with
    | some j => if i < j then some (.matched e j i) else none
    | none => some (.split e i)

/-- The arrivals of a frame, in frame order. -/
def arrivalsOf (roles : List Role) : List Arrival := (List.range roles.length).filterMap (arrivalAt roles)

/-! ## Evaluation (section 4.3) -/

/-- The raw value of a matched pair (R49). -/
def pairValue (lowerHalf upperHalf : Half) : Int := upperHalf.toInt * 65536 + lowerHalf.toNat

/-- The evaluated value: raw plus offset, saturated to the width (R53). -/
def ConfigRecord.evaluated (r : ConfigRecord) (raw : Int) : Int :=
  max r.widthMin (min r.widthMax (raw + r.offset))

/-- The value is above (R54). -/
def ConfigRecord.above (r : ConfigRecord) (v : Int) : Bool := r.highCheck && decide (r.high < v)

/-- The value is below (R54). -/
def ConfigRecord.below (r : ConfigRecord) (v : Int) : Bool := r.lowCheck && decide (v < r.low)

/-- The value is clear-high (R54). -/
def ConfigRecord.clearHigh (r : ConfigRecord) (v : Int) : Bool := !r.highCheck || decide (v ≤ r.high - r.hysteresis)

/-- The value is clear-low (R54). -/
def ConfigRecord.clearLow (r : ConfigRecord) (v : Int) : Bool := !r.lowCheck || decide (r.low + r.hysteresis ≤ v)

/-- What a judgement leaves: the condition, the persistence count, and the events raised in order. -/
structure Verdict where
  condition : Condition
  persistence : Nat
  events : List EventKind
deriving DecidableEq, Repr

/-- Toward HIGH with k consecutive samples above: HIGH with ENTER-HIGH at pe, RISING before (R55, R56). -/
def ConfigRecord.rise (r : ConfigRecord) (k : Nat) : Verdict :=
  if k = r.enterPersistence then ⟨.high, 0, [.enterHigh]⟩ else ⟨.rising, k, []⟩

/-- The mirror of `rise` toward LOW (R55, R56). -/
def ConfigRecord.fall (r : ConfigRecord) (k : Nat) : Verdict :=
  if k = r.enterPersistence then ⟨.low, 0, [.enterLow]⟩ else ⟨.falling, k, []⟩

/-- The judgement from IDLE or NORMAL (R55). -/
def ConfigRecord.judgeNormal (r : ConfigRecord) (v : Int) : Verdict :=
  if r.above v then r.rise 1 else if r.below v then r.fall 1 else ⟨.normal, 0, []⟩

/-- A RETURN, and the second judgement of the same value from NORMAL (R59). -/
def ConfigRecord.returned (r : ConfigRecord) (v : Int) : Verdict :=
  let again := r.judgeNormal v
  { again with events := .returned :: again.events }

/-- Out of HIGH with k consecutive samples clear-high (R57, R58). -/
def ConfigRecord.clearFromHigh (r : ConfigRecord) (k : Nat) (v : Int) : Verdict :=
  if r.clearHigh v then if k = r.returnPersistence then r.returned v else ⟨.highClearing, k, []⟩ else ⟨.high, 0, []⟩

/-- Out of LOW with k consecutive samples clear-low (R57, R58). -/
def ConfigRecord.clearFromLow (r : ConfigRecord) (k : Nat) (v : Int) : Verdict :=
  if r.clearLow v then if k = r.returnPersistence then r.returned v else ⟨.lowClearing, k, []⟩ else ⟨.low, 0, []⟩

/-- The condition machine: what a valid arrival of evaluated value v makes of a condition and its persistence count
(R55 to R60). -/
def ConfigRecord.judge (r : ConfigRecord) (condition : Condition) (k : Nat) (v : Int) : Verdict :=
  match condition with
  | .idle => r.judgeNormal v
  | .normal => r.judgeNormal v
  | .rising => if r.above v then r.rise (k + 1) else if r.below v then r.fall 1 else ⟨.normal, 0, []⟩
  | .falling => if r.below v then r.fall (k + 1) else if r.above v then r.rise 1 else ⟨.normal, 0, []⟩
  | .high => r.clearFromHigh 1 v
  | .highClearing => r.clearFromHigh (k + 1) v
  | .low => r.clearFromLow 1 v
  | .lowClearing => r.clearFromLow (k + 1) v
  | .stale => let again := r.judgeNormal v; { again with events := .resume :: again.events }

/-- The tag that the condition an arrival leaves gives (R65). -/
def Condition.tag : Condition → Tag
  | .high => .high
  | .highClearing => .high
  | .low => .low
  | .lowClearing => .low
  | .normal => .normal
  | .rising => .normal
  | .falling => .normal
  | .idle => .unevaluated
  | .stale => .unevaluated

/-- What an evaluated arrival leaves: the state, the tag written, and whether it raised an event. -/
structure Evaluated where
  state : State
  tag : Tag
  raised : Bool
deriving DecidableEq, Repr

/-- A valid arrival of raw value `raw` to entry e (R51): its events in order, then condition, count, last value and age. -/
def State.evaluateValid (s : State) (e : Nat) (raw : Int) : Evaluated :=
  let r := (s.entry e).live
  let v := r.evaluated raw
  let verdict := r.judge (s.entry e).run.condition (s.entry e).run.persistence v
  let t := verdict.events.foldl (fun u kind => u.raiseChannel e kind (some v)) s
  ⟨t.modifyRun e fun x =>
      { x with condition := verdict.condition, persistence := verdict.persistence, lastValue := some v, age := 0 },
    verdict.condition.tag, !verdict.events.isEmpty⟩

/-- An invalid arrival to entry e (R61): the age, and a RESUME with no value where the entry is STALE. -/
def State.evaluateInvalid (s : State) (e : Nat) : Evaluated :=
  if (s.entry e).run.condition = .stale then
    ⟨(s.raiseChannel e .resume none).modifyRun e fun x => { x with condition := .normal, persistence := 0, age := 0 },
      .unevaluated, true⟩
  else ⟨s.modifyRun e fun x => { x with age := 0 }, .unevaluated, false⟩

/-- A split half of entry e (R50): age, split count, SPLIT. -/
def State.splitHalf (s : State) (e : Nat) : State :=
  (s.modifyRun e fun x => { x with age := 0, splitCount := satAdd Config.byteMax x.splitCount 1 }).raiseChannel e .split none

/-! ## The schedule (section 5.1) -/

/-- Whether the schedule forwards an arrival it finds at position p (R73). -/
def ConfigRecord.forwards (r : ConfigRecord) (p : Nat) (tag : Tag) (raised : Bool) : Bool :=
  decide (p < r.duty) || (r.alarmBurst && (tag == .high || tag == .low)) || raised

/-- The position after an evaluated arrival (R74). -/
def ConfigRecord.advance (r : ConfigRecord) (p : Nat) : Nat := if p + 1 = r.period then 0 else p + 1

/-- The switch at a schedule boundary of entry e, the lower or only entry of a waiting unit (R66, R103). -/
def State.boundarySwitch (s : State) (e : Nat) : State :=
  if (s.entry e).run.waiting && (s.entry e).run.position == 0 && !s.unitUpper e then
    (s.switchUnit e false).completeIfEmpty
  else s

/-! ## The frame claim -/

/-- A claim in progress: the state, the samples with those removed absent, the entries whose later samples pass untouched
(R66), and whether an arrival has been evaluated. -/
structure FrameClaim where
  state : State
  samples : List (Option Sample)
  closed : List Nat
  changed : Bool
deriving DecidableEq, Repr

/-- What the schedule leaves of a sample: tagged where forwarded, absent where removed. -/
def scheduled (kept : Bool) (tag : Tag) (x : Option Sample) : Option Sample :=
  if kept then x.map (fun y => y.tagged tag) else none

/-- The schedule counts an evaluated arrival, whatever the condition it leaves the entry in: an invalid one to an IDLE entry is
counted too (R61, R72, R74; DEDUCED, assumption 12). -/
def ConfigRecord.count (r : ConfigRecord) (x : RunState) : RunState := { x with position := r.advance x.position }

/-- An evaluated arrival goes to the schedule of entry e: decision, position, and the switch at a boundary. The live slot
is that under which the arrival was taken (R66, R73, R74, R103). -/
def FrameClaim.schedule (c : FrameClaim) (e : Nat) (places : List Nat) (x : Evaluated) : FrameClaim :=
  let r := (c.state.entry e).live
  let kept := r.forwards (x.state.entry e).run.position x.tag x.raised
  let t := x.state.modifyRun e r.count
  let u := t.boundarySwitch e
  let after := (u.entry e).live
  { state := u
    samples := places.foldl (fun l i => l.modify i (scheduled kept x.tag)) c.samples
    closed := if after.enable = r.enable ∧ after.pair = r.pair then c.closed else t.unit e ++ c.closed
    changed := true }

/-- The sample at a place as it arrived. -/
def FrameClaim.sampleAt (c : FrameClaim) (i : Nat) : Sample := ((c.samples.getD i none).getD ⟨0, 0⟩)

/-- One arrival is taken (R47); an arrival of a unit whose switch in this frame changed enable or pair passes untouched
(R66). -/
def FrameClaim.take (c : FrameClaim) (a : Arrival) : FrameClaim :=
  if c.closed.contains a.entry then c
  else
    match a with
    | .split e _ => { c with state := c.state.splitHalf e }
    | .single e i =>
      let x := c.sampleAt i
      c.schedule e [i]
        (if x.valid then c.state.evaluateValid e x.value.toInt else c.state.evaluateInvalid e)
    | .matched e i j =>
      let lowerHalf := c.sampleAt i
      let upperHalf := c.sampleAt j
      c.schedule e [i, j]
        (if lowerHalf.valid && upperHalf.valid then c.state.evaluateValid e (pairValue lowerHalf.value upperHalf.value)
         else c.state.evaluateInvalid e)

/-- The claim of a frame: every arrival in order, from the roles decided at its start. -/
def State.claimFrame (s : State) (bytes : List Byte) : FrameClaim :=
  let samples := frameSamples bytes
  let roles := samples.map (s.roleOf (frameNode bytes))
  (arrivalsOf roles).foldl FrameClaim.take ⟨s, samples.map some, [], false⟩

/-- What the claim leaves of the frame: READY with its original bytes or rewritten (R77), or absent where no sample of a
frame that had one survives (R78). -/
def FrameClaim.frame (c : FrameClaim) (bytes : List Byte) : Option InboundFrame :=
  let kept := c.samples.filterMap id
  if !c.changed then some ⟨.ready, bytes⟩
  else if kept.isEmpty then none
  else some ⟨.ready, sampleFrameBytes (byteAt bytes 1) kept⟩

/-- Replace the oldest PENDING frame by what its claim leaves of it. -/
def replacePending (result : Option InboundFrame) : List InboundFrame → List InboundFrame
  | [] => []
  | f :: rest => if f.state = .pending then result.toList ++ rest else f :: replacePending result rest

/-- The qualifier takes the oldest PENDING frame (R45, R81); the hand-over comes at the end of the claim (R68). -/
def State.qualify (s : State) : State :=
  match s.inbound.find? (·.state == .pending) with
  | none => s
  | some f =>
    let c := s.claimFrame f.bytes
    { c.state with inbound := replacePending (c.frame f.bytes) c.state.inbound }.handOver

/-- FRAME_CLAIM (R45). -/
def execFrameClaim (s : State) : Host.Outcome State Fault Refusal := takeClaim State.qualify s

end Sys2Proof.Machine
end

