-- ==== Sys2Proof/Machine/Requests.lean ====
section
/-! DEFINITION. The management requests (chapter 12), operation by operation, each with its own execution, and the commands
that carry them. -/

namespace Sys2Proof.Machine

open Sys2Proof

/-! ## Payloads (Tables 21 and 22) -/

/-- The identity record (Table 21, R167). -/
def State.identity (s : State) : List Byte :=
  let c := s.agent.counters
  [0x6C, 0x96, 0x02,
    (match s.agent.address with | some a => BitVec.ofNat 8 (128 + a.toNat % 32) | none => 0),
    BitVec.ofNat 8 s.agent.lastCause.code, s.commit.generation, BitVec.ofNat 8 (flagBit s.commit.pending 0),
    BitVec.ofNat 8 s.waitingCount]
  ++ natBytes (if s.commit.pending then s.commit.deadline else 0)
  ++ [BitVec.ofNat 8 s.map.length, BitVec.ofNat 8 s.report.queue.length, BitVec.ofNat 8 s.report.unacked.length,
    s.report.nextSequence]
  ++ natBytes c.fReceiveDiscards ++ natBytes c.inboundDrops ++ natBytes c.hReceiveDiscards
  ++ natBytes c.outboundDrops ++ natBytes c.droppedRequests

/-- The run-state payload of entry e (Table 22, R34). -/
def State.runStatePayload (s : State) (e : Nat) : List Byte :=
  let r := (s.entry e).run
  [BitVec.ofNat 8 e, BitVec.ofNat 8 r.condition.code,
    BitVec.ofNat 8 (flagBit r.lastValue.isSome 0 + flagBit r.waiting 1 + flagBit (s.pairedUpper e) 2),
    BitVec.ofNat 8 r.persistence, BitVec.ofNat 8 r.position]
  ++ natBytes r.age ++ intBytes (r.lastValue.getD 0)
  ++ [r.generation, BitVec.ofNat 8 r.splitCount, BitVec.ofNat 8 r.tally,
    BitVec.ofNat 8 (match r.lastKind with | some k => k.code | none => 0)]

/-- The bytes of a key item (Table 16, note). -/
def MapKey.bytes (k : MapKey) : List Byte := [BitVec.ofNat 8 k.node, BitVec.ofNat 8 k.channel, BitVec.ofNat 8 k.entry]

/-- The MAP-LIST payload from a start position (R26). -/
def State.mapListPayload (s : State) (start : Nat) : List Byte :=
  let items := (s.map.drop start).take 16
  BitVec.ofNat 8 s.map.length :: BitVec.ofNat 8 items.length :: items.flatMap MapKey.bytes

/-! ## Reading the stage -/

/-- IDENTIFY (R166, R167). -/
def performIdentify (operands : List Byte) (s : State) : Reply :=
  let flag := byteAt operands 0
  if flag = 0 then ⟨.done, s.identity, s⟩
  else if flag = 1 then ⟨.done, s.identity, { s with agent := { s.agent with counters := Counters.zero } }⟩
  else Reply.refuse .range s

/-- READ-ENTRY (R31, R166). -/
def performReadEntry (operands : List Byte) (s : State) : Reply :=
  let e := byteAt operands 0
  let slot := byteAt operands 1
  if Config.entryCount ≤ e.toNat then Reply.refuse .range s
  else if slot = 0 then ⟨.done, e :: slot :: (s.entry e.toNat).live.bytes, s⟩
  else if slot = 1 then ⟨.done, e :: slot :: (s.entry e.toNat).staging.bytes, s⟩
  else Reply.refuse .range s

/-- READ-STATE (R34, R166). -/
def performReadState (operands : List Byte) (s : State) : Reply :=
  let e := byteAt operands 0
  let flag := byteAt operands 1
  if Config.entryCount ≤ e.toNat then Reply.refuse .range s
  else if flag = 0 then ⟨.done, s.runStatePayload e.toNat, s⟩
  else if flag = 1 then
    ⟨.done, s.runStatePayload e.toNat, s.modifyRun e.toNat fun r => { r with tally := 0, lastKind := none }⟩
  else Reply.refuse .range s

/-- MAP-LIST (R26, R168). -/
def performMapList (operands : List Byte) (s : State) : Reply :=
  ⟨.done, s.mapListPayload (byteAt operands 0).toNat, s⟩

/-! ## Changing the table and the map -/

/-- WRITE-ENTRY (R30): RANGE, BUSY, INVALID, or the staging slot takes the record. -/
def performWriteEntry (operands : List Byte) (s : State) : Reply :=
  let e := (byteAt operands 0).toNat
  if Config.entryCount ≤ e then Reply.refuse .range s
  else if s.commit.pending then Reply.refuse .busy s
  else
    match decodeRecord (operands.drop 1) with
    | none => Reply.refuse .invalid s
    | some r =>
      if r.valid e then ⟨.done, [], { s with table := s.table.modify e fun x => { x with staging := r } }⟩
      else Reply.refuse .invalid s

/-- Whether one key comes before another in the map's order (R39). -/
def MapKey.before (a b : MapKey) : Bool := decide (a.node < b.node ∨ (a.node = b.node ∧ a.channel < b.channel))

/-- A map with a key added in ascending key order (R39). -/
def insertKey (k : MapKey) : List MapKey → List MapKey
  | [] => [k]
  | x :: rest => if k.before x then k :: x :: rest else x :: insertKey k rest

/-- The effect of a map change on the entry it names: a waiting unit switches out of turn, completing the commit where it
was the last, and the entry then receives a run-state reset (R41, R42, R108). -/
def State.mapChange (s : State) (e : Nat) : State :=
  let t := if (s.entry e).run.waiting then (s.switchUnit e true).completeIfEmpty else s
  (t.modifyRun e RunState.cleared).handOver

/-- MAP-ADD (R41): RANGE, DUPLICATE-KEY, CLAIMED, or the key is added. -/
def performMapAdd (operands : List Byte) (s : State) : Reply :=
  let node := (byteAt operands 0).toNat
  let channel := (byteAt operands 1).toNat
  let e := (byteAt operands 2).toNat
  if 64 ≤ node ∨ 16 ≤ channel ∨ Config.entryCount ≤ e then Reply.refuse .range s
  else if (s.lookup node channel).isSome then Reply.refuse .duplicateKey s
  else if s.mapped e then Reply.refuse .claimed s
  else ⟨.done, [], { s with map := insertKey ⟨node, channel, e⟩ s.map }.mapChange e⟩

/-- MAP-REMOVE (R42): NOT-FOUND, or the key is removed. -/
def performMapRemove (operands : List Byte) (s : State) : Reply :=
  let node := (byteAt operands 0).toNat
  let channel := (byteAt operands 1).toNat
  match s.lookup node channel with
  | none => Reply.refuse .notFound s
  | some e =>
    ⟨.done, [], { s with map := s.map.filter fun k => !(k.node == node && k.channel == channel) }.mapChange e⟩

/-! ## COMMIT (chapter 7) -/

/-- The five tests of R100 on the lower entry of a unit. -/
def State.switchesAtOnce (s : State) (e : Nat) : Bool :=
  let x := s.entry e
  x.live == x.staging || !s.mapped e || (!x.live.enable && !x.staging.enable) || x.run.condition == .idle
    || x.run.position == 0

/-- The units are decided and tested; each switches at once or joins the waiting set (R99, R100). -/
def State.acceptUnits (s : State) : State :=
  { s with
    table := mapEntries
      (fun e x =>
        if s.switchesAtOnce (s.unitLower e) then s.switchedEntry false e x
        else { x with run := { x.run with waiting := true } })
      0 s.table }

/-- The acceptance of a COMMIT with deadline d (R99): C rises, the units are tested, and the commit completes, is forced
or is PENDING. -/
def State.acceptCommit (s : State) (d : Nat) : State :=
  let t := { s with commit := { s.commit with generation := s.commit.generation + 1, forcedCount := 0 } }.acceptUnits
  let u :=
    if t.waitingCount = 0 then t.completeCommit
    else if d = 0 then t.forceWaiting.completeCommit
    else { t with commit := { t.commit with pending := true, deadline := d } }
  u.handOver

/-- The waiting count that an acceptance answers: the entries that join the waiting set (R99). -/
def State.acceptedWaiting (s : State) : Nat :=
  ({ s with commit := { s.commit with generation := s.commit.generation + 1, forcedCount := 0 } }.acceptUnits).waitingCount

/-- COMMIT (R99, R170): BUSY in PENDING, accepted in IDLE. -/
def performCommit (operands : List Byte) (s : State) : Reply :=
  if s.commit.pending then Reply.refuse .busy s
  else
    ⟨.accepted, [BitVec.ofNat 8 s.acceptedWaiting],
      s.acceptCommit (halfOf (byteAt operands 0) (byteAt operands 1)).toNat⟩

/-! ## Reports and trip groups -/

/-- REPORT-ACK (R129, R171). -/
def performReportAck (operands : List Byte) (s : State) : Reply :=
  let n := byteAt operands 0
  if s.report.unacked.any (fun f => f.sequence == n) then
    let parts := splitThrough (fun f => f.sequence == n) s.report.unacked
    ⟨.done, [BitVec.ofNat 8 parts.1.length], { s with report := { s.report with unacked := parts.2 } }⟩
  else Reply.refuse .notFound s

/-- An acknowledged group: LATCHED becomes CLEAR (Table 58). -/
def TripGroup.acknowledged (x : TripGroup) : TripGroup := if x.state = .latched then { x with state := .clear } else x

/-- TRIP-ACK (R137, R138). -/
def performTripAck (operands : List Byte) (s : State) : Reply :=
  let g := (byteAt operands 0).toNat
  if g < Config.groupCount then
    let t := { s with groups := s.groups.modify g TripGroup.acknowledged }
    ⟨if (s.group g).state = .asserted then .active else .done, [t.groupStates], t⟩
  else if g = 255 then
    let t := { s with groups := s.groups.map TripGroup.acknowledged }
    ⟨if t.groups.any (fun x => x.state == .asserted) then .active else .done, [t.groupStates], t⟩
  else Reply.refuse .range s

/-! ## Settings -/

/-- READ-SETTINGS (R172). -/
def performReadSettings (_operands : List Byte) (s : State) : Reply := ⟨.done, s.agent.settings.bytes, s⟩

/-- A group under a new mode: a LATCHED group changed to FOLLOW becomes CLEAR (R139). -/
def TripGroup.underMode (latch : Bool) (x : TripGroup) : TripGroup :=
  if !latch ∧ x.state = .latched then { x with state := .clear } else x

/-- A settings record is stored whole and takes effect on every reader at once (R173, R174). -/
def State.storeSettings (s : State) (x : Settings) : State :=
  { s with
    agent := { s.agent with settings := x }
    elapsed := if x.tickPeriod = s.agent.settings.tickPeriod then s.elapsed else 0
    groups := s.groups.zipIdx.map fun g => g.1.underMode (x.latch g.2) }

/-- WRITE-SETTINGS (R173): INVALID, BUSY, or stored. -/
def performWriteSettings (operands : List Byte) (s : State) : Reply :=
  match decodeSettings operands with
  | none => Reply.refuse .invalid s
  | some x =>
    if s.commit.pending ∧ x.tickPeriod ≠ s.agent.settings.tickPeriod then Reply.refuse .busy s
    else ⟨.done, [], s.storeSettings x⟩

/-- RESET (R176): the request reset; its answer is queued afterwards, in the emptied queue. -/
def performReset (_operands : List Byte) (s : State) : Reply := ⟨.done, [], s.requestReset⟩

/-! ## The operations of Table 16 -/

/-- IDENTIFY, mutating when its flag is not 0 (R166). -/
def opIdentify : Operation := ⟨0x01, 1, fun o => byteAt o 0 != 0, false, true, performIdentify⟩
/-- READ-ENTRY. -/
def opReadEntry : Operation := ⟨0x02, 2, fun _ => false, false, true, performReadEntry⟩
/-- WRITE-ENTRY. -/
def opWriteEntry : Operation := ⟨0x03, 25, fun _ => true, false, true, performWriteEntry⟩
/-- READ-STATE, mutating when its flag is not 0 (R166). -/
def opReadState : Operation := ⟨0x04, 2, fun o => byteAt o 1 != 0, false, true, performReadState⟩
/-- MAP-ADD. -/
def opMapAdd : Operation := ⟨0x05, 3, fun _ => true, false, true, performMapAdd⟩
/-- MAP-REMOVE. -/
def opMapRemove : Operation := ⟨0x06, 2, fun _ => true, false, true, performMapRemove⟩
/-- MAP-LIST. -/
def opMapList : Operation := ⟨0x07, 1, fun _ => false, false, true, performMapList⟩
/-- COMMIT, executed when broadcast (R159). -/
def opCommit : Operation := ⟨0x08, 2, fun _ => true, true, true, performCommit⟩
/-- REPORT-ACK. -/
def opReportAck : Operation := ⟨0x09, 1, fun _ => true, false, true, performReportAck⟩
/-- TRIP-ACK, executed when broadcast (R159). -/
def opTripAck : Operation := ⟨0x0A, 1, fun _ => true, true, true, performTripAck⟩
/-- READ-SETTINGS. -/
def opReadSettings : Operation := ⟨0x0B, 0, fun _ => false, false, true, performReadSettings⟩
/-- WRITE-SETTINGS. -/
def opWriteSettings : Operation := ⟨0x0C, 5, fun _ => true, false, true, performWriteSettings⟩
/-- RESET, executed when broadcast (R159), and not recorded (R164). -/
def opReset : Operation := ⟨0x0D, 0, fun _ => true, true, false, performReset⟩

/-- The operations of Table 16. -/
def operations : List Operation :=
  [opIdentify, opReadEntry, opWriteEntry, opReadState, opMapAdd, opMapRemove, opMapList, opCommit, opReportAck,
    opTripAck, opReadSettings, opWriteSettings, opReset]

/-- The operation of a code; none where Table 16 does not list it. -/
def operationOf (code : Byte) : Option Operation := operations.find? (fun o => o.code == code)

/-! ## The commands -/

/-- IDENTIFY. -/
def execIdentify (target tag : Byte) (operands : List Byte) (s : State) : Host.Outcome State Fault Refusal :=
  takeClaim (fun t => t.requestEnd (some opIdentify) target tag 0x01 operands) s

/-- READ_ENTRY. -/
def execReadEntry (target tag : Byte) (operands : List Byte) (s : State) : Host.Outcome State Fault Refusal :=
  takeClaim (fun t => t.requestEnd (some opReadEntry) target tag 0x02 operands) s

/-- WRITE_ENTRY. -/
def execWriteEntry (target tag : Byte) (operands : List Byte) (s : State) : Host.Outcome State Fault Refusal :=
  takeClaim (fun t => t.requestEnd (some opWriteEntry) target tag 0x03 operands) s

/-- READ_STATE. -/
def execReadState (target tag : Byte) (operands : List Byte) (s : State) : Host.Outcome State Fault Refusal :=
  takeClaim (fun t => t.requestEnd (some opReadState) target tag 0x04 operands) s

/-- MAP_ADD. -/
def execMapAdd (target tag : Byte) (operands : List Byte) (s : State) : Host.Outcome State Fault Refusal :=
  takeClaim (fun t => t.requestEnd (some opMapAdd) target tag 0x05 operands) s

/-- MAP_REMOVE. -/
def execMapRemove (target tag : Byte) (operands : List Byte) (s : State) : Host.Outcome State Fault Refusal :=
  takeClaim (fun t => t.requestEnd (some opMapRemove) target tag 0x06 operands) s

/-- MAP_LIST. -/
def execMapList (target tag : Byte) (operands : List Byte) (s : State) : Host.Outcome State Fault Refusal :=
  takeClaim (fun t => t.requestEnd (some opMapList) target tag 0x07 operands) s

/-- COMMIT. -/
def execCommit (target tag : Byte) (operands : List Byte) (s : State) : Host.Outcome State Fault Refusal :=
  takeClaim (fun t => t.requestEnd (some opCommit) target tag 0x08 operands) s

/-- REPORT_ACK. -/
def execReportAck (target tag : Byte) (operands : List Byte) (s : State) : Host.Outcome State Fault Refusal :=
  takeClaim (fun t => t.requestEnd (some opReportAck) target tag 0x09 operands) s

/-- TRIP_ACK. -/
def execTripAck (target tag : Byte) (operands : List Byte) (s : State) : Host.Outcome State Fault Refusal :=
  takeClaim (fun t => t.requestEnd (some opTripAck) target tag 0x0A operands) s

/-- READ_SETTINGS. -/
def execReadSettings (target tag : Byte) (operands : List Byte) (s : State) : Host.Outcome State Fault Refusal :=
  takeClaim (fun t => t.requestEnd (some opReadSettings) target tag 0x0B operands) s

/-- WRITE_SETTINGS. -/
def execWriteSettings (target tag : Byte) (operands : List Byte) (s : State) : Host.Outcome State Fault Refusal :=
  takeClaim (fun t => t.requestEnd (some opWriteSettings) target tag 0x0C operands) s

/-- RESET. -/
def execReset (target tag : Byte) (operands : List Byte) (s : State) : Host.Outcome State Fault Refusal :=
  takeClaim (fun t => t.requestEnd (some opReset) target tag 0x0D operands) s

/-- UNKNOWN_OP: a request of any operation code; a code that Table 16 lists is that operation's. -/
def execUnknownOp (op target tag : Byte) (operands : List Byte) (s : State) : Host.Outcome State Fault Refusal :=
  takeClaim (fun t => t.requestEnd (operationOf op) target tag op operands) s

/-- END closes a frame of these bytes at the H port: the checks of R10, then the hand-off of R12. -/
def State.hFrameEnd (s : State) (bytes : List Byte) : State :=
  match checkFrame bytes with
  | some .request =>
    s.requestEnd (operationOf (byteAt bytes 3)) (byteAt bytes 1) (byteAt bytes 2) (byteAt bytes 3) (requestOperands bytes)
  | some .enumeration => s.enumerationEnd (byteAt bytes 1) (byteAt bytes 2) (byteAt bytes 3) (byteAt bytes 4)
  | some .sample => s.hFrameEndWith fun t => t.countDiscard .h
  | some .report => s.hFrameEndWith fun t => t.countDiscard .h
  | some .response => s.hFrameEndWith fun t => t.countDiscard .h
  | none => s.hFrameEndWith fun t => t.countDiscard .h

/-- H_RECEIVE_DISCARD (R10, R12). -/
def execHReceiveDiscard (bytes : List Byte) (s : State) : Host.Outcome State Fault Refusal :=
  takeClaim (fun t => t.hFrameEnd bytes) s

end Sys2Proof.Machine
end

