-- ==== Sys2Proof/Machine/Timebase.lean ====
section
/-! DEFINITION. The tick and what it does at its three owners (chapter 6): aging and STALE, the deadline step and forcing,
the retry step and expiry. -/

namespace Sys2Proof.Machine

open Sys2Proof

/-- Every watched entry's age rises by 1 (R90). -/
def State.ageEntries (s : State) : State :=
  { s with
    table := mapEntries
      (fun e x => if s.watched e then { x with run := { x.run with age := satAdd Config.counterMax x.run.age 1 } } else x)
      0 s.table }

/-- The channel table's step: the ages rise, and the entries the comparison then finds at their limit are to become STALE,
in ascending order (R90, R92). -/
def State.ageStep (s : State) : State :=
  { s.ageEntries with staleDue := (List.range Config.entryCount).filter s.ageEntries.staleReached }

/-- The commit controller's step: the deadline of a pending commit falls by 1 (R105). -/
def State.deadlineStep (s : State) : State :=
  if s.commit.pending then { s with commit := { s.commit with deadline := s.commit.deadline - 1 } } else s

/-- Whether the H transmitter is sending the report frame of this sequence. -/
def State.sendingReport (s : State) (sequence : Byte) : Bool :=
  match s.hPort.tx.frame with
  | some x => x.source == .report sequence
  | none => false

/-- The report unit's step for one frame: the tick count rises unless the frame is in transmission or due, and a frame at
or above the retry interval is expired (R126). -/
def State.retryFrame (s : State) (f : ReportFrame) : ReportFrame :=
  if f.due || s.sendingReport f.sequence then f
  else { f with ticks := f.ticks + 1, expired := decide (s.agent.settings.retryInterval ≤ f.ticks + 1) }

/-- The report unit's step (R126). -/
def State.retryStep (s : State) : State :=
  { s with report := { s.report with unacked := s.report.unacked.map s.retryFrame } }

/-- A tick is issued to its three owners and the generator starts again from 0 (R87); none is issued while a reset holds
the device (R89). The commit controller's step, with its forcing, comes before the aging or after it (R96). -/
def State.tick (s : State) (deadlineFirst : Bool) : State :=
  if s.running then
    let t := { s with elapsed := 0 }
    if deadlineFirst then t.deadlineStep.forceIfDue.ageStep.retryStep else t.ageStep.deadlineStep.retryStep
  else s

/-- TICK (R87). -/
def execTick (deadlineFirst : Bool) (s : State) : Host.Outcome State Fault Refusal :=
  takeClaim (fun t => t.tick deadlineFirst) s

/-- STALE (R92). -/
def execStale (e : Nat) (s : State) : Host.Outcome State Fault Refusal :=
  takeNow (fun t => if t.staleDue.contains e then t.staleUpTo e else t) s

/-- DEADLINE_FORCING (R106): a tick claim of the table already begun is finished first (R96). -/
def execDeadlineForcing (s : State) : Host.Outcome State Fault Refusal :=
  takeNow (fun t => t.finishStale.forceIfDue) s

/-- RETRY_EXPIRY (R127, R128). -/
def execRetryExpiry (sequence : Byte) (s : State) : Host.Outcome State Fault Refusal :=
  takeNow (fun t => t.expire sequence) s

end Sys2Proof.Machine
end

