-- ==== Sys2Proof/Machine/Transmit.lean ====
section
/-! DEFINITION. The head-side arbiter and the two transmitters (chapter 10, section 1.5): a grant, the forming and
retransmission of report frames, and the completion of a transmission. -/

namespace Sys2Proof.Machine

open Sys2Proof

/-- An idle transmitter takes a frame, and the long-gap count rises unless the START follows 32 or more IDLE symbols (R1). -/
def TxSide.startFrame (t : TxSide) (bytes : List Byte) (source : Supplier) : TxSide :=
  { t with
    frame := some ⟨bytes, source, 0⟩
    gapLeft := 0
    idleRun := 0
    longGap := if Config.idleRunLength ≤ t.idleRun then 0 else t.longGap + 1 }

/-- The END of the frame has gone out: the transmitter owes a gap of 2 IDLE symbols, or the run of 32 (R1). -/
def TxSide.endFrame (t : TxSide) : TxSide :=
  { t with
    frame := none
    gapLeft := if t.longGap = Config.longGapLimit then Config.idleRunLength else Config.shortGap
    idleRun := 0
    out := .symbol .stop }

/-- The stage address written into a frame at its grant; the report and response claims are present only while there is
one (R123, R144). -/
def State.stageAddress (s : State) : Byte := s.agent.address.getD 0

/-- The H transmitter takes a frame at a grant (R13). -/
def State.sendHead (s : State) (bytes : List Byte) (source : Supplier) : State :=
  s.setTx .h (s.hPort.tx.startFrame bytes source)

/-! ## What the owner of a granted claim sends -/

/-- The first records that satisfy p, at most n, and the records left (R124). -/
def takeRecords (p : ReportRecord → Bool) : Nat → List ReportRecord → List ReportRecord × List ReportRecord
  | 0, q => ([], q)
  | _ + 1, [] => ([], [])
  | n + 1, r :: rest =>
    if p r then ((takeRecords p n rest).1.cons r, (takeRecords p n rest).2)
    else ((takeRecords p (n + 1) rest).1, (takeRecords p (n + 1) rest).2.cons r)

/-- A new report frame of the oldest records that satisfy p is formed, joins the list and is sent (R124). -/
def State.formReport (s : State) (p : ReportRecord → Bool) : State :=
  let parts := takeRecords p Config.recordsPerFrame s.report.queue
  let n := s.report.nextSequence
  let t : State := { s with report := ⟨parts.2, s.report.unacked ++ [⟨n, parts.1, 1, 0, false, false⟩], n + 1⟩ }
  t.sendHead (reportFrameBytes s.stageAddress n parts.1) (.report n)

/-- A due frame is sent again: send count up, tick count 0, no longer due (R127). -/
def State.retransmit (s : State) (f : ReportFrame) : State :=
  let again (x : ReportFrame) : ReportFrame :=
    if x.sequence == f.sequence then { x with sendCount := x.sendCount + 1, ticks := 0, due := false } else x
  let t : State := { s with report := { s.report with unacked := s.report.unacked.map again } }
  t.sendHead (reportFrameBytes s.stageAddress f.sequence f.records) (.report f.sequence)

/-- A granted report claim: the oldest due frame of its class, or a new frame (Table 53). -/
def State.sendReport (s : State) (ofClass : ReportFrame → Bool) (p : ReportRecord → Bool) : State :=
  match s.report.unacked.find? (fun f => f.due && ofClass f) with
  | some f => s.retransmit f
  | none => s.formReport p

/-- The granted transit claim: the head frame enters transmission (R82). -/
def State.sendTransit (s : State) : State :=
  match s.inbound with
  | [] => s
  | f :: rest => { s with inbound := { f with state := .inTransmission } :: rest }.sendHead f.bytes .transit

/-- The granted response claim: the oldest response goes out under the address held at the grant, an ADDRESSED response
under its own (R148). -/
def State.sendResponse (s : State) : State :=
  match s.agent.responses with
  | [] => s
  | r :: rest =>
    { s with agent := { s.agent with responses := { r with granted := true } :: rest } }.sendHead
      (r.bytes (r.address.getD s.stageAddress)) .response

/-- The promotion counter after a grant (R147). -/
def State.promoted (s : State) (k : ClaimKind) : Nat :=
  match k with
  | .urgent => s.promotion
  | .response => if s.routineClaim then s.promotion + 1 else 0
  | .transit => if s.routineClaim then s.promotion + 1 else 0
  | .routine => 0

/-- The owner of the chosen claim hands over its frame (R148). -/
def State.serve (s : State) (k : ClaimKind) : State :=
  let t := { s with promotion := s.promoted k }
  match k with
  | .urgent => t.sendReport (fun f => f.urgent) (fun r => r.urgent)
  | .response => t.sendResponse
  | .transit => t.sendTransit
  | .routine => t.sendReport (fun f => !f.urgent) (fun _ => true)

/-- A grant, where its conditions hold and a claim is present (R145, R146). -/
def State.grant (s : State) : State :=
  if s.grantPossible then
    match s.choice with
    | some k => s.serve k
    | none => s
  else s

/-- GRANT (R145). -/
def execGrant (s : State) : Host.Outcome State Fault Refusal := takeClaim State.grant s

/-! ## Completion (R13, R14, R15) -/

/-- The supplying block releases what it holds for a sent frame: the inbound buffer in transmission or the granted
response. A report frame stays in the list, and its tick count runs from here (R126). -/
def State.releaseHead (s : State) (source : Supplier) : State :=
  match source with
  | .transit =>
    match s.inbound with
    | f :: rest => if f.state = .inTransmission then { s with inbound := rest } else s
    | [] => s
  | .response =>
    match s.agent.responses with
    | r :: rest => if r.granted then { s with agent := { s.agent with responses := rest } } else s
    | [] => s
  | .report _ => s
  | .outbound => s

/-- The H transmitter's END has gone out (R13); with no frame in transmission nothing completes. -/
def State.headComplete (s : State) : State :=
  match s.hPort.tx.frame with
  | none => s
  | some x => (s.releaseHead x.source).setTx .h s.hPort.tx.endFrame

/-- The F transmitter, idle once its gap is sent, takes the oldest outbound frame (R14). -/
def State.fieldStart (s : State) : State :=
  if s.running && s.fPort.tx.isIdle then
    match s.agent.outbound with
    | [] => s
    | f :: rest =>
      { s with agent := { s.agent with outbound := { f with taken := true } :: rest } }.setTx .f
        (s.fPort.tx.startFrame f.bytes .outbound)
  else s

/-- The F transmitter's END has gone out: the sent frame leaves the outbound queue, if it is still there (R14, R15). -/
def State.fieldComplete (s : State) : State :=
  match s.fPort.tx.frame with
  | none => s
  | some _ =>
    let t :=
      match s.agent.outbound with
      | f :: rest => if f.taken then { s with agent := { s.agent with outbound := rest } } else s
      | [] => s
    t.setTx .f s.fPort.tx.endFrame

/-- H_TRANSMISSION_COMPLETE (R13). -/
def execHTransmissionComplete (s : State) : Host.Outcome State Fault Refusal := takeClaim State.headComplete s

/-- F_TRANSMIT_START (R14). -/
def execFTransmitStart (s : State) : Host.Outcome State Fault Refusal := takeClaim State.fieldStart s

/-- F_TRANSMISSION_COMPLETE (R14). -/
def execFTransmissionComplete (s : State) : Host.Outcome State Fault Refusal := takeClaim State.fieldComplete s

end Sys2Proof.Machine
end

