-- ==== Sys2Proof/Machine/Dispatch.lean ====
section
/-! DEFINITION. exec: one arm per command, each one direct call of its meaning. -/

namespace Sys2Proof.Machine

open Sys2Proof

def exec (i : Instr) (s : State) : Host.Outcome State Fault Refusal :=
  match i with
  | .powerOnReset => Sys2Proof.Machine.execPowerOnReset s
  | .powerOnHoldEnd => Sys2Proof.Machine.execPowerOnHoldEnd s
  | .pinReset lowNs => Sys2Proof.Machine.execPinReset lowNs s
  | .pinResetRelease => Sys2Proof.Machine.execPinResetRelease s
  | .firstRecognisedSymbol p y => Sys2Proof.Machine.execFirstRecognisedSymbol p y s
  | .acquisitionComplete p => Sys2Proof.Machine.execAcquisitionComplete p s
  | .acquisitionTimeout p => Sys2Proof.Machine.execAcquisitionTimeout p s
  | .lineInterrupted p => Sys2Proof.Machine.execLineInterrupted p s
  | .lineResumed p y => Sys2Proof.Machine.execLineResumed p y s
  | .lineDownTimeout p => Sys2Proof.Machine.execLineDownTimeout p s
  | .frameStart p => Sys2Proof.Machine.execFrameStart p s
  | .frameAbandon p cause => Sys2Proof.Machine.execFrameAbandon p cause s
  | .sampleFrame bytes => Sys2Proof.Machine.execSampleFrame bytes s
  | .transitFrame bytes => Sys2Proof.Machine.execTransitFrame bytes s
  | .enumeration mode next flags tag => Sys2Proof.Machine.execEnumeration mode next flags tag s
  | .identify target tag operands => Sys2Proof.Machine.execIdentify target tag operands s
  | .readEntry target tag operands => Sys2Proof.Machine.execReadEntry target tag operands s
  | .writeEntry target tag operands => Sys2Proof.Machine.execWriteEntry target tag operands s
  | .readState target tag operands => Sys2Proof.Machine.execReadState target tag operands s
  | .mapAdd target tag operands => Sys2Proof.Machine.execMapAdd target tag operands s
  | .mapRemove target tag operands => Sys2Proof.Machine.execMapRemove target tag operands s
  | .mapList target tag operands => Sys2Proof.Machine.execMapList target tag operands s
  | .commit target tag operands => Sys2Proof.Machine.execCommit target tag operands s
  | .reportAck target tag operands => Sys2Proof.Machine.execReportAck target tag operands s
  | .tripAck target tag operands => Sys2Proof.Machine.execTripAck target tag operands s
  | .readSettings target tag operands => Sys2Proof.Machine.execReadSettings target tag operands s
  | .writeSettings target tag operands => Sys2Proof.Machine.execWriteSettings target tag operands s
  | .reset target tag operands => Sys2Proof.Machine.execReset target tag operands s
  | .unknownOp op target tag operands => Sys2Proof.Machine.execUnknownOp op target tag operands s
  | .frameClaim => Sys2Proof.Machine.execFrameClaim s
  | .tick deadlineFirst => Sys2Proof.Machine.execTick deadlineFirst s
  | .stale entry => Sys2Proof.Machine.execStale entry s
  | .deadlineForcing => Sys2Proof.Machine.execDeadlineForcing s
  | .retryExpiry sequence => Sys2Proof.Machine.execRetryExpiry sequence s
  | .grant => Sys2Proof.Machine.execGrant s
  | .hTransmissionComplete => Sys2Proof.Machine.execHTransmissionComplete s
  | .fTransmitStart => Sys2Proof.Machine.execFTransmitStart s
  | .fTransmissionComplete => Sys2Proof.Machine.execFTransmissionComplete s
  | .hReceiveDiscard bytes => Sys2Proof.Machine.execHReceiveDiscard bytes s

end Sys2Proof.Machine
end

