-- ==== Sys2Proof/Machine/Line.lean ====
section
/-! DEFINITION. One byte time of the device with no command waiting: each receive side takes what its line brings, the
timers run, the transmitters send a symbol, the tick generator advances, and the qualifier, the F transmitter and the
arbiter act (R1, R3, R4, R5, R9, R14, R45, R87, R145). -/

namespace Sys2Proof.Machine

open Sys2Proof

/-- What a line brings in this byte time: the next item listed, or silence. -/
def PortSides.next (x : PortSides) : LineItem := x.line.headD .silence

/-- The lines after this byte time. -/
def State.advanceLines (s : State) : State :=
  { s with hPort := { s.hPort with line := s.hPort.line.tail }, fPort := { s.fPort with line := s.fPort.line.tail } }

/-- END closes the frame in reception at a port. -/
def State.frameEnd (s : State) (p : Port) (bytes : List Byte) : State :=
  match p with
  | .h => s.hFrameEnd bytes
  | .f => s.fFrameEnd bytes

/-- A byte time without a recognised symbol: the 4 µs timer runs in ACQUIRING and UP (R3, R4), the line-down timer in
INTERRUPTED (R5). -/
def State.noSymbol (s : State) (p : Port) : State :=
  let r := (s.port p).rx
  match r.state with
  | .down => s
  | .acquiring =>
    let t := s.setRx p { r with idleCount := 0, silence := r.silence + Config.clocksPerByte }
    if Config.silenceClocks ≤ r.silence + Config.clocksPerByte then t.acquisitionLost p else t
  | .up =>
    let t := s.setRx p { r with silence := r.silence + Config.clocksPerByte }
    if Config.silenceClocks ≤ r.silence + Config.clocksPerByte then t.interrupted p else t
  | .interrupted =>
    let t := s.setRx p { r with lineDown := r.lineDown + Config.clocksPerByte }
    if Config.lineDownClocks ≤ r.lineDown + Config.clocksPerByte then t.lineLost p else t

/-- A recognised symbol in ACQUIRING: IDLE symbols are counted, and any other restarts the count (R3). -/
def State.acquiringSymbol (s : State) (p : Port) (y : Symbol) : State :=
  let r := (s.port p).rx
  let count := if y = .idle then r.idleCount + 1 else 0
  let t := s.setRx p { r with idleCount := count, silence := 0 }
  if count = Config.idleRunLength then t.acquired p else t

/-- A recognised symbol in UP (R8, R9, R10). -/
def State.upSymbol (s : State) (p : Port) (y : Symbol) : State :=
  let r := (s.port p).rx
  let heard := s.setRx p { r with silence := 0 }
  match y with
  | .start => s.openFrame p
  | .idle =>
    match r.reception with
    | .inFrame _ => s.abandonFrame p .idleInFrame
    | .between => heard
    | .refused => heard
  | .data b =>
    match r.reception with
    | .inFrame bytes =>
      if bytes.length < Config.maxFrameBytes then s.setRx p { r with silence := 0, reception := .inFrame (bytes ++ [b]) }
      else s.abandonFrame p .oversize
    | .between => heard
    | .refused => heard
  | .stop =>
    match r.reception with
    | .inFrame bytes => s.frameEnd p bytes
    | .between => heard
    | .refused => s.closeReception p

/-- A receive side takes what its line brings in one byte time. -/
def State.receive (s : State) (p : Port) (x : LineItem) : State :=
  match x with
  | .silence => s.noSymbol p
  | .violation => (s.abandonFrame p .violation).noSymbol p
  | .symbol y =>
    match (s.port p).rx.state with
    | .down => s.firstSymbol p y
    | .acquiring => s.acquiringSymbol p y
    | .up => s.upSymbol p y
    | .interrupted => s.resumed p

/-- The transmission at a port completes. -/
def State.transmissionComplete (s : State) (p : Port) : State :=
  match p with
  | .h => s.headComplete
  | .f => s.fieldComplete

/-- A transmitter sends one symbol: START, a byte, END, or IDLE; a run of 32 IDLE symbols returns the long-gap count to 0
(R1). -/
def State.transmit (s : State) (p : Port) : State :=
  let t := (s.port p).tx
  match t.frame with
  | some x =>
    if x.sent = 0 then s.setTx p { t with frame := some { x with sent := 1 }, out := .symbol .start }
    else if x.sent ≤ x.bytes.length then
      s.setTx p { t with frame := some { x with sent := x.sent + 1 }, out := .symbol (.data (byteAt x.bytes (x.sent - 1))) }
    else s.transmissionComplete p
  | none =>
    let run := min Config.idleRunLength (t.idleRun + 1)
    s.setTx p
      { t with
        gapLeft := t.gapLeft - 1
        idleRun := run
        longGap := if run = Config.idleRunLength then 0 else t.longGap
        out := .symbol .idle }

/-- The tick generator measures one byte time, and issues a tick when the period is reached (R87). R96 and R105 let the
deadline step and its forcing come before or after the aging of the same tick; a tick of the generator always ages first
(DESIGN CHOICE, assumptions 2 and 7), and its work is then finished in the order of `State.finishTick`. -/
def State.advanceGenerator (s : State) : State :=
  let elapsed := s.elapsed + Config.clocksPerByte
  if s.agent.settings.tickPeriod.clocks ≤ elapsed then (s.tick false).finishTick else { s with elapsed := elapsed }

/-- The events of one byte time of a running device whose lines bring these items, in the model's order (assumption 2). -/
def byteEvents (h f : LineItem) : List (State → State) :=
  [State.finishTick, fun s => s.receive .h h, fun s => s.receive .f f, fun s => s.transmit .h, fun s => s.transmit .f,
    State.advanceGenerator, State.qualify, State.fieldStart, State.grant]

/-- One byte time of a running device: event after event, the promotion counter withdrawn after each that leaves the
ROUTINE report claim absent (R147). -/
def State.runByte (s : State) (h f : LineItem) : State :=
  (byteEvents h f).foldl (fun t event => (event t).withdrawPromotion) s

/-- One byte time: of the power-on hold, of a device held by RSTn, or of a running device. -/
def State.byteTime (s : State) : State :=
  let t := s.advanceLines
  match s.power with
  | .hold stable =>
    if Config.holdClocks ≤ stable + Config.clocksPerByte then t.powerStable
    else { t with power := .hold (stable + Config.clocksPerByte) }
  | .running => if s.rstn then t.runByte s.hPort.next s.fPort.next else t

end Sys2Proof.Machine
end

