-- ==== Sys2Proof/Safety.lean ====
section
/-! DEFINITION. What a safe run keeps: the laws of the device that the manual names, each a decidable statement about one
state, and the words the statements about commands use. -/

namespace Sys2Proof

/-- The commands that are part of a tick's work, or that end it: every other command finds that work done. -/
def Instr.partOfTick : Instr → Bool
  | .powerOnReset => true
  | .powerOnHoldEnd => true
  | .stale _ => true
  | .deadlineForcing => true
  | .retryExpiry _ => true
  | .pinReset _ => false
  | .pinResetRelease => false
  | .firstRecognisedSymbol _ _ => false
  | .acquisitionComplete _ => false
  | .acquisitionTimeout _ => false
  | .lineInterrupted _ => false
  | .lineResumed _ _ => false
  | .lineDownTimeout _ => false
  | .frameStart _ => false
  | .frameAbandon _ _ => false
  | .sampleFrame _ => false
  | .transitFrame _ => false
  | .enumeration _ _ _ _ => false
  | .identify _ _ _ => false
  | .readEntry _ _ _ => false
  | .writeEntry _ _ _ => false
  | .readState _ _ _ => false
  | .mapAdd _ _ _ => false
  | .mapRemove _ _ _ => false
  | .mapList _ _ _ => false
  | .commit _ _ _ => false
  | .reportAck _ _ _ => false
  | .tripAck _ _ _ => false
  | .readSettings _ _ _ => false
  | .writeSettings _ _ _ => false
  | .reset _ _ _ => false
  | .unknownOp _ _ _ _ => false
  | .frameClaim => false
  | .tick _ => false
  | .grant => false
  | .hTransmissionComplete => false
  | .fTransmitStart => false
  | .fTransmissionComplete => false
  | .hReceiveDiscard _ => false

end Sys2Proof

namespace Sys2Proof.Machine

open Sys2Proof

/-! ## The report unit -/

/-- What the queue's records keep: LOSS is URGENT without a value, no record has a value and an extra, and the repeat count is
1 to 255 (Table 50, Table 51, the note of Table 13). -/
abbrev ReportRecord.wf (r : ReportRecord) : Prop :=
  (r.subject = .loss → r.urgent = true ∧ r.value = none) ∧ (r.value = none ∨ r.extra = none)
    ∧ 1 ≤ r.repeatCount ∧ r.repeatCount ≤ 255

/-- The law of R113: at most 32 records, one for each subject, at most 31 whose subject is not LOSS. -/
abbrev State.reportLaw (s : State) : Prop :=
  s.report.queue.length ≤ 32 ∧ (s.report.queue.map (·.subject)).Nodup ∧ generalRecords s.report.queue ≤ 31
    ∧ ∀ r ∈ s.report.queue, r.wf

/-- The law of R125 and the ranges of Table 49: at most 4 frames of 1 to 4 records, consecutive sequences of which the newest
is one less than the next, send counts of 1 to 16. -/
abbrev State.listLaw (s : State) : Prop :=
  s.report.unacked.length ≤ 4
    ∧ s.report.unacked.map (·.sequence)
        = (List.range s.report.unacked.length).map
            (fun i => s.report.nextSequence - BitVec.ofNat 8 (s.report.unacked.length - i))
    ∧ (∀ f ∈ s.report.unacked, 1 ≤ f.records.length ∧ f.records.length ≤ 4 ∧ 1 ≤ f.sendCount ∧ f.sendCount ≤ 16
        ∧ (f.due = true → f.sendCount ≤ 15))
    ∧ s.agent.settings.retryLimit ≤ 15

/-! ## The agent, the arbiter and the inbound queue -/

/-- The laws of R152, R157, R158, R160 and R161: the address, the three queues, the list of distinct tags and the counters
keep their ranges. -/
abbrev State.agentLaw (s : State) : Prop :=
  (∀ a ∈ s.agent.address, 1 ≤ a.toNat ∧ a.toNat ≤ 30)
    ∧ s.agent.responses.length ≤ 2 ∧ (∀ r ∈ s.agent.responses, r.payload.length ≤ 55)
    ∧ s.agent.recent.length ≤ 4 ∧ (s.agent.recent.map (·.1)).Nodup
    ∧ s.agent.outbound.length ≤ 4
    ∧ s.agent.counters.fReceiveDiscards ≤ 65535 ∧ s.agent.counters.inboundDrops ≤ 65535
    ∧ s.agent.counters.hReceiveDiscards ≤ 65535 ∧ s.agent.counters.outboundDrops ≤ 65535
    ∧ s.agent.counters.droppedRequests ≤ 65535

/-- What R123 and R144 rest on: an UNASSIGNED stage holds no response and no unacknowledged report frame. -/
abbrev State.addressLaw (s : State) : Prop :=
  s.agent.address = none → s.agent.responses = [] ∧ s.report.unacked = []

/-- The bound of R147: the promotion counter is at most 8, and 0 while the ROUTINE report claim is absent. -/
abbrev State.promotionLaw (s : State) : Prop :=
  s.promotion ≤ 8 ∧ (s.routineClaim = false → s.promotion = 0)

/-- The bound of R79, with the place of a frame in transmission (Table 37): at most ten buffers are in use, and only the head
of the queue proper is ever in transmission. -/
abbrev State.inboundLaw (s : State) : Prop :=
  s.inboundInUse ≤ 10 ∧ ∀ f ∈ s.inbound.tail, f.state ≠ .inTransmission

/-! ## The ports -/

/-- What a receive side keeps: only UP has a frame, of at most 64 bytes; DOWN keeps no trace of what came before; the idle
count stays below 32 until the line is UP (R2, R3, R5, R9). -/
def RxSide.wf (r : RxSide) : Bool :=
  (match r.reception with
    | .inFrame bytes => r.state == .up && decide (bytes.length ≤ 64)
    | .refused => r.state == .up
    | .between => true)
  && (r.state != .down || r == RxSide.inDown)
  && (if r.state = .acquiring then decide (r.idleCount < 32) else decide (r.idleCount ≤ 32))

/-- A port of a device that a reset holds: receive side DOWN, transmitter silent (R16, R178). -/
def PortSides.held (x : PortSides) : Bool := x.rx == RxSide.inDown && x.tx.frame.isNone && x.tx.out == .silence

/-- The ports keep their ranges, the long-gap counts stay at most 16 (R1), and both ports are held while the device is. -/
abbrev State.portLaw (s : State) : Prop :=
  s.hPort.rx.wf = true ∧ s.fPort.rx.wf = true ∧ s.hPort.tx.longGap ≤ 16 ∧ s.fPort.tx.longGap ≤ 16
    ∧ (s.running = false → s.hPort.held = true ∧ s.fPort.held = true)

/-! ## The channel map and the channel table -/

/-- The law of R39: keys in strictly ascending order and in range, each entry the target of at most one. -/
abbrev State.mapLaw (s : State) : Prop :=
  s.map.Pairwise (fun a b => a.before b = true)
    ∧ (∀ k ∈ s.map, k.node < 64 ∧ k.channel < 16 ∧ k.entry < 96)
    ∧ (s.map.map (·.entry)).Nodup

/-- A slot's record as it can be stored in entry e: valid there, with the ranges R25 leaves (R29). -/
abbrev ConfigRecord.stored (r : ConfigRecord) (e : Nat) : Prop :=
  r.valid e = true ∧ 1 ≤ r.period ∧ r.period ≤ 255 ∧ 1 ≤ r.enterPersistence ∧ r.enterPersistence ≤ 15
    ∧ 1 ≤ r.returnPersistence ∧ r.returnPersistence ≤ 15

/-- The persistence count that a condition allows under a record (R32, Table 32). -/
def ConfigRecord.countOk (r : ConfigRecord) (condition : Condition) (k : Nat) : Bool :=
  match condition with
  | .rising => decide (1 ≤ k ∧ k < r.enterPersistence)
  | .falling => decide (1 ≤ k ∧ k < r.enterPersistence)
  | .highClearing => decide (1 ≤ k ∧ k < r.returnPersistence)
  | .lowClearing => decide (1 ≤ k ∧ k < r.returnPersistence)
  | .idle => decide (k = 0)
  | .normal => decide (k = 0)
  | .high => decide (k = 0)
  | .low => decide (k = 0)
  | .stale => decide (k = 0)

/-- What one entry keeps: the laws of R32, IDLE with position and age 0 where the entry is not watched (R32, R36, R91, R104),
and its unit's waiting flag (R38). A watched IDLE entry that invalid arrivals have reached is at the position they leave (R61,
R74; assumption 12). -/
abbrev State.entryLaw (s : State) (e : Nat) : Prop :=
  (s.entry e).live.stored e ∧ (s.entry e).staging.stored e
    ∧ (s.entry e).run.position < (s.entry e).live.period
    ∧ (s.entry e).live.countOk (s.entry e).run.condition (s.entry e).run.persistence = true
    ∧ (s.watched e = false →
        (s.entry e).run.condition = .idle ∧ (s.entry e).run.position = 0 ∧ (s.entry e).run.age = 0)
    ∧ (s.entry e).run.age ≤ 65535 ∧ (s.entry e).run.splitCount ≤ 255 ∧ (s.entry e).run.tally ≤ 255
    ∧ (s.entry e).run.waiting = (s.entry (s.unitLower e)).run.waiting

/-- The laws of the channel table: 96 entries, the map's law, and every entry's. -/
abbrev State.tableLaw (s : State) : Prop :=
  s.table.length = 96 ∧ s.mapLaw ∧ ∀ e < 96, s.entryLaw e

/-- The law of R98: in IDLE every entry holds generation C and none waits; in PENDING an entry holds C − 1 exactly when it
waits. The deadline remaining is 0 in IDLE (Table 44). -/
abbrev State.generationLaw (s : State) : Prop :=
  (∀ x ∈ s.table, x.run.generation = if x.run.waiting then s.commit.generation - 1 else s.commit.generation)
    ∧ (s.commit.pending = false → s.commit.deadline = 0 ∧ ∀ x ∈ s.table, x.run.waiting = false)

/-! ## Trip groups -/

/-- What one group keeps: ASSERTED exactly while its set has an entry, and never LATCHED in FOLLOW mode (R136). -/
abbrev TripGroup.wf (x : TripGroup) (latch : Bool) : Prop :=
  (x.state = .asserted ↔ x.set ≠ []) ∧ (latch = false → x.state ≠ .latched)

/-- The law of R136, with the sets of R135: outside a tick claim each group's set holds its tripping members. -/
abbrev State.tripLaw (s : State) : Prop :=
  s.groups.length = 4
    ∧ (∀ g < 4, (s.group g).wf (s.agent.settings.latch g))
    ∧ (s.staleDue = [] → ∀ g < 4, (s.group g).set = s.trippingSet g)

/-! ## Words for the statements about commands -/

/-- Entry i, holding x when its unit switches, holds y after the switch under generation c (R101, R102, R37, Table 45). It
becomes IDLE, with its last value absent, where the new record disables it or where its pairing begins or ends; an entry
that the switch leaves watched keeps its age (R91, R93, assumption 13), and an IDLE entry's position stays in range (R32,
assumption 12); s is the state before the switch. -/
abbrev State.switchedTo (s : State) (c : Byte) (outOfTurn : Bool) (i : Nat) (x y : Entry) : Prop :=
  let pairedBefore := s.pairedUpper i = true
  let pairedAfter := i % 2 = 1 ∧ (s.entry (i - 1)).staging.pair = true
  let becomesIdle := x.staging.enable = false ∨ ¬(pairedBefore ↔ pairedAfter)
  (y.live = x.staging ∧ y.staging = x.staging ∧ y.run.generation = c ∧ y.run.waiting = false ∧ y.run.persistence = 0)
    ∧ (y.run.splitCount = x.run.splitCount ∧ y.run.tally = x.run.tally ∧ y.run.lastKind = x.run.lastKind)
    ∧ (becomesIdle →
        y.run.condition = .idle ∧ y.run.position = 0 ∧ y.run.age = 0 ∧ y.run.lastValue = none)
    ∧ (¬becomesIdle →
        y.run.lastValue = x.run.lastValue
          ∧ (x.run.condition = .rising ∨ x.run.condition = .falling → y.run.condition = .normal)
          ∧ (x.run.condition = .highClearing → y.run.condition = .high)
          ∧ (x.run.condition = .lowClearing → y.run.condition = .low)
          ∧ (x.run.condition ∉ [.rising, .falling, .highClearing, .lowClearing] → y.run.condition = x.run.condition)
          ∧ (s.watched i = true → y.run.age = x.run.age)
          ∧ (x.run.condition = .idle → s.watched i = false → y.run.age = 0)
          ∧ (x.run.condition ≠ .idle → y.run.age = x.run.age)
          ∧ (outOfTurn = true → y.run.position = 0)
          ∧ (outOfTurn = false → x.run.condition ≠ .idle ∨ x.run.position < x.staging.period →
              y.run.position = x.run.position)
          ∧ (outOfTurn = false → x.run.condition = .idle → x.staging.period ≤ x.run.position → y.run.position = 0))

/-- What an arrival makes of an entry's condition and persistence count, with its events: a valid one of this raw value is
judged at its evaluated value (R51), an invalid one resumes a STALE entry and moves nothing else (R61). -/
def ConfigRecord.verdictOf (r : ConfigRecord) (x : RunState) (raw : Option Int) : Verdict :=
  match raw with
  | some v => r.judge x.condition x.persistence (r.evaluated v)
  | none => if x.condition = .stale then ⟨.normal, 0, [.resume]⟩ else ⟨x.condition, x.persistence, []⟩

/-- The tag an arrival gives its samples (R61, R65). -/
def ConfigRecord.tagOf (r : ConfigRecord) (x : RunState) (raw : Option Int) : Tag :=
  if raw.isSome then (r.verdictOf x raw).condition.tag else .unevaluated

/-- Whether the schedule keeps the samples of an arrival (R73). -/
def ConfigRecord.keeps (r : ConfigRecord) (x : RunState) (raw : Option Int) : Bool :=
  r.forwards x.position (r.tagOf x raw) (!(r.verdictOf x raw).events.isEmpty)

/-- The run state after an arrival, before any switch at its boundary (R61, R62, R74, R116). -/
def ConfigRecord.runAfter (r : ConfigRecord) (x : RunState) (raw : Option Int) : RunState :=
  let verdict := r.verdictOf x raw
  { x with
    condition := verdict.condition
    persistence := verdict.persistence
    age := 0
    lastValue := match raw with | some v => some (r.evaluated v) | none => x.lastValue
    position := if x.position + 1 = r.period then 0 else x.position + 1
    tally := verdict.events.foldl (fun n _ => min 255 (n + 1)) x.tally
    lastKind := verdict.events.foldl (fun _ k => some k) x.lastKind }

/-- The report queue after the events of an arrival at entry e, in their order (R64, R116). -/
def State.queueAfter (s : State) (e : Nat) (raw : Option Int) : List ReportRecord :=
  let r := (s.entry e).live
  (r.verdictOf (s.entry e).run raw).events.foldl
    (fun q k =>
      if r.eventClass k = .silent then q
      else placeEvent s.commit.generation
        ⟨.entry e, k, r.eventClass k, (s.entry e).run.generation, raw.map r.evaluated, none⟩ q)
    s.report.queue

/-- An arrival of a claim is evaluated at entry e from the samples at these places: a single sample, or a matched pair that is
valid when both its halves are (R47, R48, R49). -/
abbrev FrameClaim.evaluates (c : FrameClaim) (a : Arrival) (e : Nat) (places : List Nat) (raw : Option Int) : Prop :=
  (∃ (i : Nat) (x : Sample), a = .single e i ∧ places = [i] ∧ c.samples[i]? = some (some x)
      ∧ raw = if x.valid then some x.value.toInt else none)
    ∨ ∃ (i j : Nat) (x y : Sample), i ≠ j ∧ a = .matched e i j ∧ places = [i, j] ∧ c.samples[i]? = some (some x)
      ∧ c.samples[j]? = some (some y)
      ∧ raw = if x.valid && y.valid then some (pairValue x.value y.value) else none

/-- A claim d holds the samples of c with those at these places tagged and kept, or removed. -/
abbrev FrameClaim.decided (c d : FrameClaim) (places : List Nat) (kept : Bool) (tag : Tag) : Prop :=
  (∀ i ∈ places, ∀ x, c.samples[i]? = some (some x) →
      d.samples[i]? = some (if kept then some (x.tagged tag) else none))
    ∧ ∀ i, i ∉ places → d.samples[i]? = c.samples[i]?

/-- Entry e after the aging of a tick (R90). -/
def State.entryAged (s : State) (e : Nat) : Entry :=
  if s.watched e then { s.entry e with run := { (s.entry e).run with age := min 65535 ((s.entry e).run.age + 1) } }
  else s.entry e

/-- The entries that the comparison of a tick finds at their limit once their ages have risen, ascending (R92). -/
def State.atLimit (s : State) : List Nat :=
  (List.range 96).filter fun e => s.watched e && (s.entry e).live.staleLimit != 0
    && decide ((s.entry e).live.staleLimit ≤ min 65535 ((s.entry e).run.age + 1)) && (s.entry e).run.condition != .stale

/-- An unacknowledged frame after the report unit's step of a tick (R126). -/
def State.frameTicked (s : State) (f : ReportFrame) : ReportFrame :=
  if f.due || s.sendingReport f.sequence then f
  else { f with ticks := f.ticks + 1, expired := decide (s.agent.settings.retryInterval ≤ f.ticks + 1) }

/-- Every entry that waits in s is one of these. -/
abbrev State.waitsOnlyIn (s : State) (entries : List Nat) : Prop :=
  ∀ i < 96, (s.entry i).run.waiting = true → i ∈ entries

/-- The COMMIT-DONE event of the commit in progress, the forced count its extra (R107). -/
def State.commitDone (s : State) : Event :=
  ⟨.commit, .commitDone, .routine, s.commit.generation, none, some s.commit.forcedCount⟩

/-- The groups of t are those of s after the hand-over of the tripping members as they stand in t (R135, R136, Table 57). -/
abbrev State.handsOver (s t : State) : Prop :=
  ∀ g < 4,
    (t.group g).set = t.trippingSet g
      ∧ (t.trippingSet g = (s.group g).set → (t.group g).state = (s.group g).state)
      ∧ (t.trippingSet g ≠ (s.group g).set → t.trippingSet g ≠ [] → (t.group g).state = .asserted)
      ∧ (t.trippingSet g ≠ (s.group g).set → t.trippingSet g = [] →
          (s.agent.settings.latch g = false → (t.group g).state = .clear)
          ∧ (s.agent.settings.latch g = true →
              ((s.group g).state = .clear → (t.group g).state = .clear)
              ∧ ((s.group g).state = .asserted ∨ (s.group g).state = .latched → (t.group g).state = .latched)))

/-- The device with the H reception closed by an END: between frames, the 4 µs measurement restarted. -/
def State.afterHEnd (s : State) : State := s.closeReception .h

/-- The report queue after a field-line event of the kind given (R6, R115, R116). -/
def State.fieldLineQueue (s : State) (kind : EventKind) : List ReportRecord :=
  if s.agent.settings.fieldLineClass = .silent then s.report.queue
  else
    placeEvent s.commit.generation
      ⟨.fieldLine, kind, s.agent.settings.fieldLineClass, s.commit.generation, none, none⟩ s.report.queue

/-- A request for this stage can be taken (R155, R156): no work of a tick is left, a frame is open at the H port, its fields
pass the format check, and the target is the stage's own address. -/
abbrev State.addressed (s : State) (target : Byte) (operands : List Byte) : Prop :=
  s.tickDone = true ∧ s.hReceiving = true ∧ requestFieldsOk target operands = true ∧ s.agent.address = some target

/-- An addressed request that finds room for its response, and whose tag is no repeat (R156). -/
abbrev State.accepts (s : State) (target tag : Byte) (operands : List Byte) : Prop :=
  s.addressed target operands ∧ s.agent.responses.length < 2 ∧ s.recentStatus tag = none

/-- The state after a mutating request has been answered and recorded (R157, R165). -/
def State.answered (s : State) (tag op : Byte) (status : Status) (payload : List Byte) : State :=
  ((s.respond (answer tag op status false payload)).record tag status).withdrawPromotion

/-- What every command on frames and requests that touches no channel state leaves as it was: map, table, commit, report
unit, groups, tick generator, power and reset pin. -/
abbrev State.sameCore (s t : State) : Prop :=
  t.map = s.map ∧ t.table = s.table ∧ t.staleDue = s.staleDue ∧ t.commit = s.commit ∧ t.report = s.report
    ∧ t.groups = s.groups ∧ t.elapsed = s.elapsed ∧ t.power = s.power ∧ t.rstn = s.rstn ∧ t.pending = s.pending

end Sys2Proof.Machine
end

