-- ==== Sys2Proof/WellFormed.lean ====
section
/-! DEFINITION. Well-formed commands: the operands a command's row can carry. The meanings are total, and give a command
outside these bounds the effect the rules give the frame or event it describes; a sender of commands keeps to them. -/

namespace Sys2Proof

open Sys2Proof.Machine

/-- The request a request row carries: operation code, target address, tag and operand bytes (Table 14). -/
def Instr.request? : Instr → Option (Byte × Byte × Byte × List Byte)
  | .identify target tag operands => some (0x01, target, tag, operands)
  | .readEntry target tag operands => some (0x02, target, tag, operands)
  | .writeEntry target tag operands => some (0x03, target, tag, operands)
  | .readState target tag operands => some (0x04, target, tag, operands)
  | .mapAdd target tag operands => some (0x05, target, tag, operands)
  | .mapRemove target tag operands => some (0x06, target, tag, operands)
  | .mapList target tag operands => some (0x07, target, tag, operands)
  | .commit target tag operands => some (0x08, target, tag, operands)
  | .reportAck target tag operands => some (0x09, target, tag, operands)
  | .tripAck target tag operands => some (0x0A, target, tag, operands)
  | .readSettings target tag operands => some (0x0B, target, tag, operands)
  | .writeSettings target tag operands => some (0x0C, target, tag, operands)
  | .reset target tag operands => some (0x0D, target, tag, operands)
  | .unknownOp op target tag operands => some (op, target, tag, operands)
  | .powerOnReset => none
  | .powerOnHoldEnd => none
  | .pinReset _ => none
  | .pinResetRelease => none
  | .firstRecognisedSymbol _ _ => none
  | .acquisitionComplete _ => none
  | .acquisitionTimeout _ => none
  | .lineInterrupted _ => none
  | .lineResumed _ _ => none
  | .lineDownTimeout _ => none
  | .frameStart _ => none
  | .frameAbandon _ _ => none
  | .sampleFrame _ => none
  | .transitFrame _ => none
  | .enumeration _ _ _ _ => none
  | .frameClaim => none
  | .tick _ => none
  | .stale _ => none
  | .deadlineForcing => none
  | .retryExpiry _ => none
  | .grant => none
  | .hTransmissionComplete => none
  | .fTransmitStart => none
  | .fTransmissionComplete => none
  | .hReceiveDiscard _ => none

/-- The bytes of a frame fit the frame in reception (R9). -/
def frameFits (bytes : List Byte) : Bool := decide (bytes.length ≤ Config.maxFrameBytes)

/-- Whether a command's operands are ones its row can carry: a request keeps to the format of R22 and UNKNOWN_OP to the codes
that Table 16 does not list; an enumeration keeps to R24; the F-port frames fit a buffer, and a SAMPLE_FRAME or TRANSIT_FRAME
is not a well-formed frame of the other row; H_RECEIVE_DISCARD carries a frame that R10 or R12 discards; PIN_RESET is at
least the 100 ns of R179; STALE names an entry of the table. -/
def Instr.wellFormed : Instr → Bool
  | .powerOnReset => true
  | .powerOnHoldEnd => true
  | .pinReset lowNs => decide (Config.rstnMinNs ≤ lowNs)
  | .pinResetRelease => true
  | .firstRecognisedSymbol _ _ => true
  | .acquisitionComplete _ => true
  | .acquisitionTimeout _ => true
  | .lineInterrupted _ => true
  | .lineResumed _ _ => true
  | .lineDownTimeout _ => true
  | .frameStart _ => true
  | .frameAbandon _ _ => true
  | .sampleFrame bytes =>
    frameFits bytes && checkFrame bytes != some .report && checkFrame bytes != some .response
  | .transitFrame bytes => frameFits bytes && checkFrame bytes != some .sample
  | .enumeration mode next flags _ => enumerationFieldsOk mode next flags
  | .identify target _ operands => requestFieldsOk target operands
  | .readEntry target _ operands => requestFieldsOk target operands
  | .writeEntry target _ operands => requestFieldsOk target operands
  | .readState target _ operands => requestFieldsOk target operands
  | .mapAdd target _ operands => requestFieldsOk target operands
  | .mapRemove target _ operands => requestFieldsOk target operands
  | .mapList target _ operands => requestFieldsOk target operands
  | .commit target _ operands => requestFieldsOk target operands
  | .reportAck target _ operands => requestFieldsOk target operands
  | .tripAck target _ operands => requestFieldsOk target operands
  | .readSettings target _ operands => requestFieldsOk target operands
  | .writeSettings target _ operands => requestFieldsOk target operands
  | .reset target _ operands => requestFieldsOk target operands
  | .unknownOp op target _ operands => requestFieldsOk target operands && (operationOf op).isNone
  | .frameClaim => true
  | .tick _ => true
  | .stale entry => decide (entry < Config.entryCount)
  | .deadlineForcing => true
  | .retryExpiry _ => true
  | .grant => true
  | .hTransmissionComplete => true
  | .fTransmitStart => true
  | .fTransmissionComplete => true
  | .hReceiveDiscard bytes =>
    frameFits bytes && checkFrame bytes != some .request && checkFrame bytes != some .enumeration

end Sys2Proof
end

