-- ==== Sys2Proof/Certificates/Slice0/Obligations.lean ====
section
/-! DEFINITION. The statements for the provers. A statement that rests on a choice of the model says so and names its entry
in notes/assumptions. -/

open Sys2Proof Sys2Proof.Machine

/-! ## The queue, the tick's work, reset and power -/

/-- The model's queue (assumption 1): a step takes the command at the front, and runs it on the state with the rest. -/
def Obligations.StepTakesTheFrontCommand : Prop :=
  ∀ (s : State) (i : Instr) (rest : List Instr), s.pending = i :: rest → step s = exec i { s with pending := rest }

/-- The model's byte time (assumption 2): with no command waiting and both lines silent, a step of a running device advances
the tick generator by the 8 clock periods of R179, and starts it from 0 where that reaches the tick period (R87). The tick it
then issues reaches its three owners: where nothing else can happen (both lines DOWN, no PENDING frame, no frame in
transmission at the H port), the table, the commit controller, the report unit and the groups are as TICK leaves them once
its work is finished, the aging taken first (the model's order, assumptions 2 and 7); without a tick they stay. -/
def Obligations.ByteTimeAdvancesTheTickGenerator : Prop :=
  ∀ s : State, s.pending = [] → s.running = true → s.hPort.line = [] → s.fPort.line = [] →
    ∃ t, step s = .next t
      ∧ t.elapsed = (if s.agent.settings.tickPeriod.clocks ≤ s.elapsed + 8 then 0 else s.elapsed + 8)
      ∧ (s.tickDone = true → s.hPort.rx.state = .down → s.fPort.rx.state = .down → s.hPort.tx.frame = none →
          (∀ f ∈ s.inbound, f.state ≠ .pending) →
        (s.elapsed + 8 < s.agent.settings.tickPeriod.clocks →
          t.table = s.table ∧ t.commit = s.commit ∧ t.report = s.report ∧ t.groups = s.groups)
        ∧ (s.agent.settings.tickPeriod.clocks ≤ s.elapsed + 8 → ∀ u, exec (.tick false) s = .next u →
          t.table = u.finishTick.table ∧ t.commit = u.finishTick.commit ∧ t.report = u.finishTick.report
            ∧ t.groups = u.finishTick.groups ∧ t.tickDone = true))

/-- No command's effect reaches the queue of commands (assumption 1). -/
def Obligations.ExecKeepsTheCommandQueue : Prop :=
  ∀ (i : Instr) (s t : State), exec i s = .next t → t.pending = s.pending

/-- A tick claim is taken whole (R35, R105, R126; the split of a tick into commands is assumption 7): its work can be
finished from every state, finishing it twice changes nothing, and every command that is not itself part of a tick acts as it
does once that work is finished. -/
def Obligations.TickWorkIsFinishedFirst : Prop :=
  (∀ s : State, s.finishTick.tickDone = true)
    ∧ (∀ s : State, s.tickDone = true → s.finishTick = s)
    ∧ ∀ (i : Instr) (s : State), i.partOfTick = false → exec i s = exec i s.finishTick

/-- The state at the end of the power-on hold (Table 72 and the power-on columns of the chapters' reset tables). -/
def Obligations.ResetHoldsThePowerOnValues : Prop :=
  (∀ p : Port, (State.reset.port p).rx.state = .down ∧ (State.reset.port p).tx.frame = none
      ∧ (State.reset.port p).tx.longGap = 0 ∧ (State.reset.port p).tx.out = .symbol .idle)
    ∧ (∀ g < 4, State.reset.tripLine g = .high)
    ∧ State.reset.agent.address = none
    ∧ State.reset.report.queue = [⟨.restart, .restarted, .restarted, true, 1, 0, none, some 0⟩]
    ∧ State.reset.report.unacked = [] ∧ State.reset.report.nextSequence = 0
    ∧ State.reset.agent.settings.bytes = [0x01, 0x32, 0x03, 0x02, 0x00]
    ∧ State.reset.map = []
    ∧ (∀ e < 96, State.reset.table[e]? = some ⟨ConfigRecord.default, ConfigRecord.default, RunState.initial⟩)
    ∧ State.reset.commit = ⟨0, false, 0, 0⟩
    ∧ State.reset.groups = [⟨[], .clear⟩, ⟨[], .clear⟩, ⟨[], .clear⟩, ⟨[], .clear⟩]
    ∧ State.reset.inbound = [] ∧ State.reset.elapsed = 0 ∧ State.reset.promotion = 0
    ∧ State.reset.agent.responses = [] ∧ State.reset.agent.recent = [] ∧ State.reset.agent.outbound = []
    ∧ State.reset.agent.counters = ⟨0, 0, 0, 0, 0⟩ ∧ State.reset.agent.lastCause = .powerOn

/-- The state at reset meets every law that a step keeps. -/
def Obligations.ResetMeetsEveryLaw : Prop :=
  State.reset.reportLaw ∧ State.reset.listLaw ∧ State.reset.addressLaw ∧ State.reset.agentLaw ∧ State.reset.promotionLaw
    ∧ State.reset.inboundLaw ∧ State.reset.portLaw ∧ State.reset.mapLaw ∧ State.reset.tableLaw
    ∧ State.reset.generationLaw ∧ State.reset.tripLaw

/-- POWER_ON_RESET and POWER_ON_HOLD_END (R16, R178). Applying power holds the device at its power-on values with silent
transmitters; the hold ends, with the values of Table 72, where RSTn is high, and lasts on where it is low. The power-on
values during the hold are assumption 6, the clock count 32000 of the 2 ms assumptions 6 and 20, the gap and idle run of 0
assumption 11; that the end of a hold changes nothing on a running device is the model's choice (assumption 4). -/
def Obligations.PowerOnHoldsThenReleases : Prop :=
  (∀ s : State, exec .powerOnReset s = .next
      { State.reset with
        power := .hold 0
        rstn := s.rstn
        hPort := ⟨RxSide.inDown, ⟨none, 0, 0, 0, .silence⟩, s.hPort.line⟩
        fPort := ⟨RxSide.inDown, ⟨none, 0, 0, 0, .silence⟩, s.fPort.line⟩
        pending := s.pending })
    ∧ (∀ (s : State) (n : Nat), s.power = .hold n → s.rstn = true → exec .powerOnHoldEnd s = .next
        { State.reset with
          hPort := { State.reset.hPort with line := s.hPort.line }
          fPort := { State.reset.fPort with line := s.fPort.line }
          pending := s.pending })
    ∧ (∀ (s : State) (n : Nat), s.power = .hold n → s.rstn = false →
        exec .powerOnHoldEnd s = .next { s with power := .hold 32000 }.withdrawPromotion)
    ∧ (∀ s : State, s.power = .running → exec .powerOnHoldEnd s = .next s.withdrawPromotion)

/-- PIN_RESET on a running device (R16 and the pin columns of Tables 8, 28, 38, 46, 54, 60, 64 and 67): transmissions cut,
lines silent, waiting entries forced with no COMMIT-DONE, run states reset with generation C, groups CLEAR, queues empty,
RESTARTED the only record, stage UNASSIGNED, counters 0, trip lines at the deasserted level of the kept polarity; map,
staging slots, C and settings kept. A low level shorter than 100 ns is ignored (R179). PIN_RESET_RELEASE (R16, R89, R178)
ends a pin reset with idle transmitters, long-gap counts 0, receive sides DOWN and the tick generator at 0, everything else
as it was, and a power-on hold whose 2 ms have passed at the power-on values. A low RSTn inside a power-on hold is part of
that hold: it lowers RSTn alone, and its end before the 2 ms have passed raises it alone (R162, R178). The 32000 clock periods
of the 2 ms are assumptions 6 and 20, the gap and idle run of 0 assumption 11. -/
def Obligations.PinResetAndItsRelease : Prop :=
  (∀ (s : State) (lowNs : Nat), s.tickDone = true → s.generationLaw → s.running = true → 100 ≤ lowNs →
    ∃ t, exec (.pinReset lowNs) s = .next t
      ∧ t.power = .running ∧ t.rstn = false
      ∧ t.hPort = ⟨RxSide.inDown, ⟨none, 0, 0, 0, .silence⟩, s.hPort.line⟩
      ∧ t.fPort = ⟨RxSide.inDown, ⟨none, 0, 0, 0, .silence⟩, s.fPort.line⟩
      ∧ t.inbound = [] ∧ t.map = s.map ∧ t.promotion = 0 ∧ t.pending = s.pending
      ∧ t.table = s.table.map (fun x =>
          ⟨if x.run.waiting then x.staging else x.live, x.staging,
            { RunState.initial with generation := s.commit.generation }⟩)
      ∧ t.commit.generation = s.commit.generation ∧ t.commit.pending = false ∧ t.commit.deadline = 0
      ∧ t.groups = s.groups.map (fun _ => ⟨[], .clear⟩)
      ∧ t.report = ⟨[⟨.restart, .restarted, .restarted, true, 1, s.commit.generation, none, some 1⟩], [], 0⟩
      ∧ t.agent = ⟨none, [], [], [], ⟨0, 0, 0, 0, 0⟩, s.agent.settings, .pin⟩
      ∧ ∀ g < 4, t.tripLine g = if s.agent.settings.assertedHigh g then .low else .high)
    ∧ (∀ (s : State) (lowNs : Nat), s.tickDone = true → lowNs < 100 →
      exec (.pinReset lowNs) s = .next s.withdrawPromotion)
    ∧ (∀ s : State, s.tickDone = true → s.power = .running → s.rstn = false →
    exec .pinResetRelease s = .next
      { s with
        rstn := true
        elapsed := 0
        hPort := ⟨RxSide.inDown, ⟨none, 0, 0, 0, .symbol .idle⟩, s.hPort.line⟩
        fPort := ⟨RxSide.inDown, ⟨none, 0, 0, 0, .symbol .idle⟩, s.fPort.line⟩ }.withdrawPromotion)
    ∧ (∀ (s : State) (n : Nat), s.tickDone = true → s.power = .hold n → s.rstn = false → 32000 ≤ n →
      exec .pinResetRelease s = .next
        { State.reset with
          hPort := { State.reset.hPort with line := s.hPort.line }
          fPort := { State.reset.fPort with line := s.fPort.line }
          pending := s.pending })
    ∧ (∀ (s : State) (n lowNs : Nat), s.tickDone = true → s.power = .hold n → s.rstn = true → 100 ≤ lowNs →
      exec (.pinReset lowNs) s = .next { s with rstn := false }.withdrawPromotion)
    ∧ ∀ (s : State) (n : Nat), s.tickDone = true → s.power = .hold n → s.rstn = false → n < 32000 →
      exec .pinResetRelease s = .next { s with rstn := true }.withdrawPromotion

/-! ## Lines and frames (chapter 1) -/

/-- FIRST_RECOGNISED_SYMBOL, LINE_RESUMED, ACQUISITION_COMPLETE and ACQUISITION_TIMEOUT (R2, R3, R5, R6): the receive side
changes as given; the F port raises FIELD-UP and FIELD-DOWN; nothing else changes. A START that resumes a line opens no frame
(assumption 9), and the idle count stays 32 in UP (assumption 10). What an ACQUIRING side takes in one byte time (R3): an IDLE
adds 1 to the idle count and the 32nd is ACQUISITION_COMPLETE, another symbol sets the count to 0, and so does a violation or a
silence, with which 8 of the 64 clock periods of the 4 µs pass and the last is ACQUISITION_TIMEOUT (assumptions 2 and 10). In
DOWN and INTERRUPTED the first recognised symbol is the command of its name, and DOWN hears nothing else. -/
def Obligations.LineAcquisitionCommands : Prop :=
  (∀ (s : State) (p : Port) (y : Symbol), s.tickDone = true → s.running = true → (s.port p).rx.state = .down →
    exec (.firstRecognisedSymbol p y) s
      = .next (s.setRx p ⟨.acquiring, if y = .idle then 1 else 0, 0, 0, .between⟩).withdrawPromotion)
  ∧ (∀ (s : State) (p : Port) (y : Symbol), s.tickDone = true → (s.port p).rx.state = .interrupted →
    exec (.lineResumed p y) s
      = .next (s.setRx p ⟨.up, (s.port p).rx.idleCount, 0, 0, .between⟩).withdrawPromotion)
  ∧ (∀ s : State, s.tickDone = true → s.hPort.rx.state = .acquiring →
    exec (.acquisitionComplete .h) s = .next (s.setRx .h ⟨.up, 32, 0, 0, .between⟩).withdrawPromotion
      ∧ exec (.acquisitionTimeout .h) s = .next (s.setRx .h ⟨.down, 0, 0, 0, .between⟩).withdrawPromotion)
  ∧ (∀ s : State, s.tickDone = true → s.fPort.rx.state = .acquiring →
    exec (.acquisitionComplete .f) s = .next
        { s.setRx .f ⟨.up, 32, 0, 0, .between⟩ with
          report := { s.report with queue := s.fieldLineQueue .fieldUp } }.withdrawPromotion
      ∧ exec (.acquisitionTimeout .f) s = .next
        { s.setRx .f ⟨.down, 0, 0, 0, .between⟩ with
          report := { s.report with queue := s.fieldLineQueue .fieldDown } }.withdrawPromotion)
  ∧ (∀ (s : State) (p : Port), s.tickDone = true → (s.port p).rx.state = .acquiring →
    let r := (s.port p).rx
    (∀ y : Symbol, y ≠ .idle → s.receive p (.symbol y) = s.setRx p { r with idleCount := 0, silence := 0 })
    ∧ (r.idleCount + 1 ≠ 32 →
        s.receive p (.symbol .idle) = s.setRx p { r with idleCount := r.idleCount + 1, silence := 0 })
    ∧ (r.idleCount + 1 = 32 →
        exec (.acquisitionComplete p) s = .next (s.receive p (.symbol .idle)).withdrawPromotion)
    ∧ ∀ x : LineItem, x = .violation ∨ x = .silence →
        (r.silence + 8 < 64 → s.receive p x = s.setRx p { r with idleCount := 0, silence := r.silence + 8 })
        ∧ (64 ≤ r.silence + 8 → exec (.acquisitionTimeout p) s = .next (s.receive p x).withdrawPromotion))
  ∧ ∀ (s : State) (p : Port) (y : Symbol), s.tickDone = true →
    ((s.port p).rx.state = .down →
        exec (.firstRecognisedSymbol p y) s = .next (s.receive p (.symbol y)).withdrawPromotion
          ∧ s.receive p .violation = s ∧ s.receive p .silence = s)
    ∧ ((s.port p).rx.state = .interrupted →
        exec (.lineResumed p y) s = .next (s.receive p (.symbol y)).withdrawPromotion)

/-- LINE_INTERRUPTED at either port, and LINE_DOWN_TIMEOUT at the F port (R4, R5, R6): a frame in reception is abandoned and
counted once, and the interruption touches nothing else; the F port's entry into DOWN raises FIELD-DOWN. A byte time without a
recognised symbol is 8 clock periods of the 4 µs timer in UP and of the 10 ms timer in INTERRUPTED, and the one that brings a
timer to its 64 or 160000 is the command (R4, R5, R179; assumptions 2 and 10). -/
def Obligations.LineInterruptionCommands : Prop :=
  (∀ (s : State) (p : Port), s.tickDone = true → (s.port p).rx.state = .up →
    exec (.lineInterrupted p) s = .next
      ((if (s.port p).rx.receiving then s.countDiscard p else s).setRx p
        ⟨.interrupted, (s.port p).rx.idleCount, 0, 0, .between⟩).withdrawPromotion)
  ∧ (∀ s : State, s.tickDone = true → s.fPort.rx.state = .interrupted →
    exec (.lineDownTimeout .f) s = .next
      { s.setRx .f ⟨.down, 0, 0, 0, .between⟩ with
        report := { s.report with queue := s.fieldLineQueue .fieldDown } }.withdrawPromotion)
  ∧ (∀ s : State, s.countDiscard .h =
      { s with agent := { s.agent with counters := { s.agent.counters with
          hReceiveDiscards := min 65535 (s.agent.counters.hReceiveDiscards + 1) } } })
  ∧ (∀ s : State, s.countDiscard .f =
      { s with agent := { s.agent with counters := { s.agent.counters with
          fReceiveDiscards := min 65535 (s.agent.counters.fReceiveDiscards + 1) } } })
  ∧ ∀ (s : State) (p : Port) (x : LineItem), s.tickDone = true →
    let r := (s.port p).rx
    (r.state = .up → x = .silence ∨ (x = .violation ∧ r.receiving = false) →
        (r.silence + 8 < 64 → s.receive p x = s.setRx p { r with silence := r.silence + 8 })
        ∧ (64 ≤ r.silence + 8 → exec (.lineInterrupted p) s = .next (s.receive p x).withdrawPromotion))
    ∧ (r.state = .interrupted → x = .silence ∨ x = .violation →
        (r.lineDown + 8 < 160000 → s.receive p x = s.setRx p { r with lineDown := r.lineDown + 8 })
        ∧ (160000 ≤ r.lineDown + 8 → exec (.lineDownTimeout p) s = .next (s.receive p x).withdrawPromotion))

/-- LINE_DOWN_TIMEOUT at the H port is the head-loss reset (R7 and the head-loss columns of the reset tables): the inbound
queue, the agent's queues, list and address go; each unacknowledged frame adds its records to the loss, oldest first, and
RESTARTED is then placed (R134); map, table, commit, groups, tick generator, settings and counters are kept. -/
def Obligations.HeadLineDownIsAHeadLossReset : Prop :=
  ∀ s : State, s.tickDone = true → s.hPort.rx.state = .interrupted →
    ∃ t, exec (.lineDownTimeout .h) s = .next t
      ∧ t.hPort = { s.hPort with rx := ⟨.down, 0, 0, 0, .between⟩ }
      ∧ t.fPort = { s.fPort with rx := { s.fPort.rx with reception := .between } }
      ∧ t.inbound = [] ∧ t.map = s.map ∧ t.table = s.table ∧ t.staleDue = s.staleDue ∧ t.commit = s.commit
      ∧ t.groups = s.groups ∧ t.elapsed = s.elapsed ∧ t.promotion = 0 ∧ t.power = s.power ∧ t.rstn = s.rstn
      ∧ t.pending = s.pending
      ∧ t.agent = { s.agent with address := none, responses := [], recent := [], outbound := [], lastCause := .headLoss }
      ∧ t.report = ⟨placeEvent s.commit.generation
            ⟨.restart, .restarted, .urgent, s.commit.generation, none, some 3⟩
            (s.report.unacked.foldl (fun q f => addLoss s.commit.generation f.records.length q) s.report.queue), [], 0⟩

/-- FRAME_START and FRAME_ABANDON (R8, R9, R79): a frame in reception is counted as a discard, then the new frame opens; an
F-port frame with all ten buffers in use is ignored and counted once, as an inbound drop. An abandonment restarts the 4 µs
measurement unless its cause is a violation, which is no recognised symbol (R4). Symbol by symbol (the byte time is
assumption 2): a DATA symbol appends its byte to the frame in reception; the 65th, an IDLE, a violation, a START and an END
are the commands FRAME_ABANDON, FRAME_START and the END of the frame collected; between frames, and in a frame that was refused
a buffer, the other symbols only restart the measurement. -/
def Obligations.FramesOpenAndAreAbandoned : Prop :=
  (∀ s : State, s.tickDone = true → s.hPort.rx.state = .up →
    exec (.frameStart .h) s = .next
      ((if s.hPort.rx.receiving then s.countDiscard .h else s).setRx .h
        { s.hPort.rx with silence := 0, reception := .inFrame [] }).withdrawPromotion)
  ∧ (∀ s : State, s.tickDone = true → s.fPort.rx.state = .up → s.inbound.length < 10 →
    exec (.frameStart .f) s = .next
      ((if s.fPort.rx.receiving then s.countDiscard .f else s).setRx .f
        { s.fPort.rx with silence := 0, reception := .inFrame [] }).withdrawPromotion)
  ∧ (∀ s : State, s.tickDone = true → s.fPort.rx.state = .up → s.fPort.rx.receiving = false → 10 ≤ s.inbound.length →
    exec (.frameStart .f) s = .next
      ({ s with agent := { s.agent with counters := { s.agent.counters with
            inboundDrops := min 65535 (s.agent.counters.inboundDrops + 1) } } }.setRx .f
        { s.fPort.rx with silence := 0, reception := .refused }).withdrawPromotion)
  ∧ (∀ (s : State) (p : Port) (cause : AbandonCause), s.tickDone = true → (s.port p).rx.state = .up →
    (s.port p).rx.receiving = true →
      exec (.frameAbandon p cause) s = .next
        ((s.countDiscard p).setRx p
          { (s.port p).rx with
            silence := if cause = .violation then (s.port p).rx.silence else 0
            reception := .between }).withdrawPromotion)
  ∧ (∀ (s : State) (p : Port) (bytes : List Byte), s.tickDone = true → (s.port p).rx.state = .up →
    (s.port p).rx.reception = .inFrame bytes →
    let r := (s.port p).rx
    (∀ b : Byte, bytes.length < 64 →
        s.receive p (.symbol (.data b)) = s.setRx p { r with silence := 0, reception := .inFrame (bytes ++ [b]) })
    ∧ (∀ b : Byte, 64 ≤ bytes.length →
        exec (.frameAbandon p .oversize) s = .next (s.receive p (.symbol (.data b))).withdrawPromotion)
    ∧ exec (.frameAbandon p .idleInFrame) s = .next (s.receive p (.symbol .idle)).withdrawPromotion
    ∧ (r.silence + 8 < 64 → s.receive p .violation
        = (s.countDiscard p).setRx p { r with silence := r.silence + 8, reception := .between })
    ∧ (64 ≤ r.silence + 8 → exec (.lineInterrupted p) s = .next (s.receive p .violation).withdrawPromotion)
    ∧ (p = .f → exec (.sampleFrame bytes) s = .next (s.receive p (.symbol .stop)).withdrawPromotion)
    ∧ (p = .h → exec (.hReceiveDiscard bytes) s = .next (s.receive p (.symbol .stop)).withdrawPromotion))
  ∧ ∀ (s : State) (p : Port), s.tickDone = true → (s.port p).rx.state = .up →
    let r := (s.port p).rx
    exec (.frameStart p) s = .next (s.receive p (.symbol .start)).withdrawPromotion
    ∧ (r.receiving = false → ∀ y : Symbol, y ≠ .start → y ≠ .stop →
        s.receive p (.symbol y) = s.setRx p { r with silence := 0 })
    ∧ (r.receiving = false →
        s.receive p (.symbol .stop) = s.setRx p { r with silence := 0, reception := .between })

/-- SAMPLE_FRAME and TRANSIT_FRAME (R10, R11): END closes the frame in reception at the F port. A SAMPLE frame joins the queue
PENDING, a REPORT or RESPONSE frame READY, with its bytes as received; any other is discarded and counted. A frame that was
refused a buffer ends without a count (R8). Both rows carry the frame's bytes, and what they do depends on the bytes alone
(assumption 15). H_RECEIVE_DISCARD (R10, R12): a frame that fails a check at the H port, or is of a head-bound kind, is
discarded and adds 1 to the H-receive discards. -/
def Obligations.FrameEndsJoinOrAreDiscarded : Prop :=
  (∀ (s : State) (bytes : List Byte) (i : Instr), i = .sampleFrame bytes ∨ i = .transitFrame bytes →
    s.tickDone = true → s.fPort.rx.state = .up →
    (s.fPort.rx.receiving = true → checkFrame bytes = some .sample →
      exec i s = .next
        { s.closeReception .f with inbound := s.inbound ++ [InboundFrame.mk .pending bytes] }.withdrawPromotion)
    ∧ (s.fPort.rx.receiving = true → checkFrame bytes = some .report ∨ checkFrame bytes = some .response →
      exec i s = .next
        { s.closeReception .f with inbound := s.inbound ++ [InboundFrame.mk .ready bytes] }.withdrawPromotion)
    ∧ (s.fPort.rx.receiving = true →
        checkFrame bytes = none ∨ checkFrame bytes = some .request ∨ checkFrame bytes = some .enumeration →
      exec i s = .next ((s.closeReception .f).countDiscard .f).withdrawPromotion)
    ∧ (s.fPort.rx.receiving = false → exec i s = .next (s.closeReception .f).withdrawPromotion))
  ∧ ∀ (s : State) (bytes : List Byte), s.tickDone = true → s.hReceiving = true →
    checkFrame bytes ≠ some .request → checkFrame bytes ≠ some .enumeration →
    exec (.hReceiveDiscard bytes) s = .next (s.afterHEnd.countDiscard .h).withdrawPromotion

/-- The model's choice (assumption 4): a line or transmission event whose condition does not hold changes nothing. -/
def Obligations.UnmetEventsChangeNothing : Prop :=
  (∀ (s : State) (p : Port) (y : Symbol), s.tickDone = true →
    ((s.port p).rx.state ≠ .down → exec (.firstRecognisedSymbol p y) s = .next s.withdrawPromotion)
    ∧ ((s.port p).rx.state ≠ .interrupted → exec (.lineResumed p y) s = .next s.withdrawPromotion
        ∧ exec (.lineDownTimeout p) s = .next s.withdrawPromotion)
    ∧ ((s.port p).rx.state ≠ .acquiring → exec (.acquisitionComplete p) s = .next s.withdrawPromotion
        ∧ exec (.acquisitionTimeout p) s = .next s.withdrawPromotion)
    ∧ ((s.port p).rx.state ≠ .up → exec (.lineInterrupted p) s = .next s.withdrawPromotion
        ∧ exec (.frameStart p) s = .next s.withdrawPromotion))
  ∧ (∀ s : State, s.tickDone = true → s.hPort.tx.frame = none →
      exec .hTransmissionComplete s = .next s.withdrawPromotion)
  ∧ (∀ s : State, s.tickDone = true → s.fPort.tx.frame = none →
      exec .fTransmissionComplete s = .next s.withdrawPromotion)

/-! ## The management agent (chapters 11 and 12) -/

/-- ENUMERATION (R153, R154, R24): the three steps on a frame that passes the format check, the forwarding, and what stays as
it was. -/
def Obligations.EnumerationTakesAndForwards : Prop :=
  ∀ (s : State) (mode next flags tag : Byte), s.tickDone = true → s.hReceiving = true →
    enumerationFieldsOk mode next flags = true →
    ∃ t, exec (.enumeration mode next flags tag) s = .next t ∧ s.sameCore t ∧ t.inbound = s.inbound ∧ t.fPort = s.fPort
      ∧ t.hPort = s.afterHEnd.hPort ∧ t.agent.recent = s.agent.recent ∧ t.agent.settings = s.agent.settings
      ∧ t.agent.lastCause = s.agent.lastCause
      ∧ (let candidate := mode = 1 ∨ s.agent.address = none
        let takes := candidate ∧ next ≠ 31 ∧ s.agent.responses.length < 2
        (takes → t.agent.address = some next
          ∧ t.agent.responses = s.agent.responses ++ [⟨tag, 0, .addressed, false, [], some next, false⟩])
        ∧ (¬takes → t.agent.address = s.agent.address ∧ t.agent.responses = s.agent.responses)
        ∧ (flags = 1 → t.agent.outbound = s.agent.outbound ∧ t.agent.counters = s.agent.counters)
        ∧ (flags = 0 → s.agent.outbound.length < 4 →
            t.agent.counters = s.agent.counters
              ∧ (takes → t.agent.outbound = s.agent.outbound ++ [⟨enumerationFrameBytes mode (next + 1) 0 tag, false⟩])
              ∧ (¬takes → next ≠ 31 ∨ ¬candidate →
                  t.agent.outbound = s.agent.outbound ++ [⟨enumerationFrameBytes mode next 0 tag, false⟩])
              ∧ (candidate → next = 31 →
                  t.agent.outbound = s.agent.outbound ++ [⟨enumerationFrameBytes mode 31 1 tag, false⟩]))
        ∧ (flags = 0 → 4 ≤ s.agent.outbound.length →
            t.agent.outbound = s.agent.outbound
              ∧ t.agent.counters =
                { s.agent.counters with outboundDrops := min 65535 (s.agent.counters.outboundDrops + 1) }))

/-- The four checks of R156 on an addressed request, for every request row, with the lengths of Table 16: no room in the
response queue, an unlisted code (UNKNOWN_OP), an unsuitable length, a repeat; and a request that fails the format check of
R22. In each case nothing else changes; UNKNOWN-OP echoes the code and is not recorded. -/
def Obligations.RequestChecksComeFirst : Prop :=
  (operations.map (fun o => (o.code, o.operandLength))
      = [(1, 1), (2, 2), (3, 25), (4, 2), (5, 3), (6, 2), (7, 1), (8, 2), (9, 1), (10, 1), (11, 0), (12, 5), (13, 0)])
  ∧ (∀ (i : Instr) (op target tag : Byte) (operands : List Byte) (s : State),
    i.request? = some (op, target, tag, operands) → s.tickDone = true → s.hReceiving = true →
    requestFieldsOk target operands = false → exec i s = .next (s.afterHEnd.countDiscard .h).withdrawPromotion)
  ∧ (∀ (s : State) (op target tag : Byte) (operands : List Byte), s.addressed target operands →
    s.agent.responses.length < 2 → (op = 0 ∨ 0x0D < op.toNat) →
    exec (.unknownOp op target tag operands) s
      = .next (s.afterHEnd.respond ⟨tag, op, .unknownOp, false, [], none, false⟩).withdrawPromotion)
  ∧ ∀ (i : Instr) (op target tag : Byte) (operands : List Byte) (s : State),
    i.request? = some (op, target, tag, operands) → s.addressed target operands →
    (2 ≤ s.agent.responses.length → exec i s = .next
      { s.afterHEnd with agent := { s.agent with counters := { s.agent.counters with
          droppedRequests := min 65535 (s.agent.counters.droppedRequests + 1) } } }.withdrawPromotion)
    ∧ (s.agent.responses.length < 2 → operationOf op = none →
        exec i s = .next (s.afterHEnd.respond (answer tag op .unknownOp false [])).withdrawPromotion)
    ∧ (∀ o, s.agent.responses.length < 2 → operationOf op = some o → operands.length ≠ o.operandLength →
        exec i s = .next (s.afterHEnd.respond (answer tag op .length false [])).withdrawPromotion)
    ∧ (∀ o status, s.agent.responses.length < 2 → operationOf op = some o → operands.length = o.operandLength →
        o.mutating operands = true → s.recentStatus tag = some status →
        exec i s = .next (s.afterHEnd.respond (answer tag op status true [])).withdrawPromotion)

/-- Requests that are not addressed to this stage (R155, R159, R160): each goes out as it came, or is counted where the
outbound queue is full; a broadcast of an operation that broadcasts do not execute is only forwarded, and one of COMMIT,
TRIP-ACK or RESET with its operand length is executed first and not answered. -/
def Obligations.OtherRequestsAreForwarded : Prop :=
  (∀ (i : Instr) (op target tag : Byte) (operands : List Byte) (s : State),
    i.request? = some (op, target, tag, operands) → s.tickDone = true → s.hReceiving = true →
    requestFieldsOk target operands = true → s.agent.address ≠ some target →
    (target ≠ 31 ∨ (op ≠ 0x08 ∧ op ≠ 0x0A ∧ op ≠ 0x0D) ∨ (∀ o, operationOf op = some o → operands.length ≠ o.operandLength)) →
    exec i s = .next (s.afterHEnd.sendOutward (requestFrameBytes target tag op operands)).withdrawPromotion)
  ∧ (∀ (s : State) (bytes : List Byte), s.agent.outbound.length < 4 →
      s.sendOutward bytes = { s with agent := { s.agent with outbound := s.agent.outbound ++ [⟨bytes, false⟩] } })
  ∧ (∀ (s : State) (bytes : List Byte), 4 ≤ s.agent.outbound.length →
      s.sendOutward bytes = { s with agent := { s.agent with counters := { s.agent.counters with
        outboundDrops := min 65535 (s.agent.counters.outboundDrops + 1) } } })
  ∧ ∀ (i : Instr) (op tag : Byte) (operands : List Byte) (o : Operation) (s : State),
    i.request? = some (op, 31, tag, operands) → s.tickDone = true → s.hReceiving = true →
    requestFieldsOk 31 operands = true → s.agent.address ≠ some 31 → operationOf op = some o →
    (op = 0x08 ∨ op = 0x0A ∨ op = 0x0D) → operands.length = o.operandLength →
    exec i s = .next
      ((o.perform operands s.afterHEnd).state.sendOutward (requestFrameBytes 31 tag op operands)).withdrawPromotion

/-- The read requests (R26, R31, R34, R166, R167, R168, R172): IDENTIFY and READ-STATE with clear flag 0, READ-ENTRY of either
slot, MAP-LIST and READ-SETTINGS are answered DONE with their payload or RANGE, and change nothing but the response queue. The
identity record is laid out as Table 21 says, the run-state payload as Table 22, with the codes of Table 18; MAP-LIST gives the
number of keys, the number k of items, and k items in key order from the start position, at most 16 (R26). -/
def Obligations.ReadRequestsAnswerAndChangeNothing : Prop :=
  (∀ s : State,
    let b (i : Nat) := byteAt s.identity i
    let w (i : Nat) := halfOf (b i) (b (i + 1))
    s.identity.length = 24 ∧ w 0 = 0x6C96 ∧ b 2 = 0x02
      ∧ (s.agent.address = none → b 3 = 0)
      ∧ (∀ a, s.agent.address = some a → a.toNat ≤ 30 → b 3 = 0x80 ||| a)
      ∧ [ResetCause.powerOn, .pin, .request, .headLoss].map ResetCause.code = [0, 1, 2, 3]
      ∧ b 4 = BitVec.ofNat 8 s.agent.lastCause.code ∧ b 5 = s.commit.generation
      ∧ b 6 = (if s.commit.pending then 1 else 0) ∧ b 7 = BitVec.ofNat 8 (s.table.countP (·.run.waiting))
      ∧ w 8 = BitVec.ofNat 16 (if s.commit.pending then s.commit.deadline else 0)
      ∧ b 10 = BitVec.ofNat 8 s.map.length ∧ b 11 = BitVec.ofNat 8 s.report.queue.length
      ∧ b 12 = BitVec.ofNat 8 s.report.unacked.length ∧ b 13 = s.report.nextSequence
      ∧ w 14 = BitVec.ofNat 16 s.agent.counters.fReceiveDiscards ∧ w 16 = BitVec.ofNat 16 s.agent.counters.inboundDrops
      ∧ w 18 = BitVec.ofNat 16 s.agent.counters.hReceiveDiscards ∧ w 20 = BitVec.ofNat 16 s.agent.counters.outboundDrops
      ∧ w 22 = BitVec.ofNat 16 s.agent.counters.droppedRequests)
  ∧ (∀ (s : State) (e : Nat),
    let x := (s.entry e).run
    let b (i : Nat) := byteAt (s.runStatePayload e) i
    let value := wordOf (b 7) (b 8) (b 9) (b 10)
    (s.runStatePayload e).length = 15 ∧ b 0 = BitVec.ofNat 8 e ∧ b 1 = BitVec.ofNat 8 x.condition.code
      ∧ [Condition.idle, .normal, .rising, .high, .highClearing, .falling, .low, .lowClearing, .stale].map Condition.code
          = [0, 1, 2, 3, 4, 5, 6, 7, 8]
      ∧ (b 2).getLsbD 0 = x.lastValue.isSome ∧ (b 2).getLsbD 1 = x.waiting ∧ (b 2).getLsbD 2 = s.pairedUpper e
      ∧ (b 2).toNat < 8
      ∧ b 3 = BitVec.ofNat 8 x.persistence ∧ b 4 = BitVec.ofNat 8 x.position ∧ halfOf (b 5) (b 6) = BitVec.ofNat 16 x.age
      ∧ (x.lastValue = none → value = 0) ∧ (∀ v, x.lastValue = some v → value = BitVec.ofInt 32 v)
      ∧ b 11 = x.generation ∧ b 12 = BitVec.ofNat 8 x.splitCount ∧ b 13 = BitVec.ofNat 8 x.tally
      ∧ (x.lastKind = none → b 14 = 0) ∧ (∀ k, x.lastKind = some k → b 14 = BitVec.ofNat 8 k.code)
      ∧ [EventKind.enterHigh, .enterLow, .returned, .stale, .resume, .split, .fieldDown, .fieldUp, .commitDone, .lost,
          .restarted].map EventKind.code = [1, 2, 3, 4, 5, 6, 7, 8, 9, 10, 11])
  ∧ (∀ (s : State) (start : Nat),
    let k := min 16 (s.map.length - start)
    s.mapListPayload start = BitVec.ofNat 8 s.map.length :: BitVec.ofNat 8 k
        :: ((s.map.drop start).take k).flatMap
          (fun x => [BitVec.ofNat 8 x.node, BitVec.ofNat 8 x.channel, BitVec.ofNat 8 x.entry])
      ∧ (s.mapListPayload start).length = 2 + 3 * k)
  ∧ ∀ (s : State) (target tag : Byte), s.agent.responses.length < 2 →
    let done (op : Byte) (payload : List Byte) :=
      Host.Outcome.next (φ := Fault) (ρ := Refusal)
        (s.afterHEnd.respond (answer tag op .done false payload)).withdrawPromotion
    let range (op : Byte) :=
      Host.Outcome.next (φ := Fault) (ρ := Refusal)
        (s.afterHEnd.respond (answer tag op .range false [])).withdrawPromotion
    (s.addressed target [0] → exec (.identify target tag [0]) s = done 0x01 s.identity)
    ∧ (∀ e : Byte, s.addressed target [e, 0] → e.toNat < 96 →
        exec (.readEntry target tag [e, 0]) s = done 0x02 (e :: 0 :: (s.entry e.toNat).live.bytes)
        ∧ exec (.readState target tag [e, 0]) s = done 0x04 (s.runStatePayload e.toNat))
    ∧ (∀ e : Byte, s.addressed target [e, 1] → e.toNat < 96 →
        exec (.readEntry target tag [e, 1]) s = done 0x02 (e :: 1 :: (s.entry e.toNat).staging.bytes))
    ∧ (∀ e x : Byte, s.addressed target [e, x] → 96 ≤ e.toNat ∨ 2 ≤ x.toNat →
        exec (.readEntry target tag [e, x]) s = range 0x02)
    ∧ (∀ e : Byte, s.addressed target [e, 0] → 96 ≤ e.toNat → exec (.readState target tag [e, 0]) s = range 0x04)
    ∧ (∀ start : Byte, s.addressed target [start] →
        exec (.mapList target tag [start]) s = done 0x07 (s.mapListPayload start.toNat))
    ∧ (s.addressed target [] → exec (.readSettings target tag []) s = done 0x0B s.agent.settings.bytes)

/-- IDENTIFY and READ-STATE with clear (R34, R161, R166, R167): the payload shows the values before the clearing, which touches
the five counters, or the entry's tally and last event kind, and nothing else; a flag above 1 is refused with RANGE. -/
def Obligations.ClearingRequestsClearAfterReading : Prop :=
  ∀ (s : State) (target tag : Byte),
    (s.accepts target tag [1] → exec (.identify target tag [1]) s = .next
      ({ s.afterHEnd with agent := { s.agent with counters := ⟨0, 0, 0, 0, 0⟩ } }.answered tag 0x01 .done s.identity))
    ∧ (∀ flag : Byte, s.accepts target tag [flag] → 2 ≤ flag.toNat →
        exec (.identify target tag [flag]) s = .next (s.afterHEnd.answered tag 0x01 .range []))
    ∧ (∀ e : Byte, s.accepts target tag [e, 1] → e.toNat < 96 →
        exec (.readState target tag [e, 1]) s = .next
          ((s.afterHEnd.modifyRun e.toNat fun r => { r with tally := 0, lastKind := none }).answered tag 0x04 .done
            (s.runStatePayload e.toNat)))
    ∧ (∀ e flag : Byte, s.accepts target tag [e, flag] → flag ≠ 0 → 96 ≤ e.toNat ∨ 2 ≤ flag.toNat →
        exec (.readState target tag [e, flag]) s = .next (s.afterHEnd.answered tag 0x04 .range []))

/-- WRITE-ENTRY (R25, R29, R30): RANGE, BUSY and INVALID in that order, each changing no slot; otherwise DONE, and the staging
slot of the entry alone takes the record. A decoded record is valid when the four conditions of R29 hold, judged at the width
its own pair field gives. And what every answer to a mutating request leaves (R157, R165): the response joins the queue, and tag and status join
the recent-request list, whose oldest entry leaves first where it holds four. -/
def Obligations.WriteEntryStagesTheRecord : Prop :=
  (∀ (r : ConfigRecord) (e : Nat), r.valid e = true ↔
    (r.pair = true → e % 2 = 0)
      ∧ (∀ v ∈ [r.offset, r.high, r.low],
          if r.pair then -2147483648 ≤ v ∧ v ≤ 2147483647 else -32768 ≤ v ∧ v ≤ 32767)
      ∧ (r.hysteresis ≤ if r.pair then 2147483647 else 32767)
      ∧ (r.highCheck = true → r.lowCheck = true → r.low < r.high ∧ 2 * (r.hysteresis : Int) ≤ r.high - r.low))
  ∧ ∀ (s : State) (target tag e : Byte) (record : List Byte), s.accepts target tag (e :: record) → record.length = 24 →
    let refused (status : Status) :=
      Host.Outcome.next (φ := Fault) (ρ := Refusal) (s.afterHEnd.answered tag 0x03 status [])
    (96 ≤ e.toNat → exec (.writeEntry target tag (e :: record)) s = refused .range)
    ∧ (e.toNat < 96 → s.commit.pending = true → exec (.writeEntry target tag (e :: record)) s = refused .busy)
    ∧ (e.toNat < 96 → s.commit.pending = false → (∀ r, decodeRecord record = some r → r.valid e.toNat = false) →
        exec (.writeEntry target tag (e :: record)) s = refused .invalid)
    ∧ (∀ r, e.toNat < 96 → s.commit.pending = false → decodeRecord record = some r → r.valid e.toNat = true →
        exec (.writeEntry target tag (e :: record)) s = .next
          ({ s.afterHEnd with table := s.table.modify e.toNat fun x => { x with staging := r } }.answered tag 0x03 .done []))
    ∧ (∀ (op : Byte) (status : Status) (payload : List Byte), let t := s.answered tag op status payload
        t.agent.responses = s.agent.responses ++ [⟨tag, op, status, false, payload, none, false⟩]
          ∧ (s.agent.recent.length < 4 → t.agent.recent = s.agent.recent ++ [(tag, status)])
          ∧ (∀ x rest, s.agent.recent = x :: rest → rest.length = 3 → t.agent.recent = rest ++ [(tag, status)]))

/-- MAP-ADD (R40, R41, R33): RANGE, DUPLICATE-KEY and CLAIMED in that order, each changing nothing; otherwise DONE, the key
finds the entry, every other key finds what it found, and an entry that does not wait receives the run-state reset alone; the
groups are handed the result (R68, R136). -/
def Obligations.MapAddAddsTheKey : Prop :=
  ∀ (s : State) (target tag node channel e : Byte), s.accepts target tag [node, channel, e] →
    let outcome := exec (.mapAdd target tag [node, channel, e]) s
    (64 ≤ node.toNat ∨ 16 ≤ channel.toNat ∨ 96 ≤ e.toNat → outcome = .next (s.afterHEnd.answered tag 0x05 .range []))
    ∧ (node.toNat < 64 → channel.toNat < 16 → e.toNat < 96 →
        ((s.lookup node.toNat channel.toNat).isSome = true →
          outcome = .next (s.afterHEnd.answered tag 0x05 .duplicateKey []))
        ∧ (s.lookup node.toNat channel.toNat = none → s.mapped e.toNat = true →
          outcome = .next (s.afterHEnd.answered tag 0x05 .claimed []))
        ∧ (s.lookup node.toNat channel.toNat = none → s.mapped e.toNat = false →
          ∃ t, outcome = .next t
            ∧ t.agent.responses = s.agent.responses ++ [answer tag 0x05 .done false []]
            ∧ t.agent.recent = (s.answered tag 0x05 .done []).agent.recent
            ∧ t.lookup node.toNat channel.toNat = some e.toNat
            ∧ (∀ n c : Nat, (n, c) ≠ (node.toNat, channel.toNat) → t.lookup n c = s.lookup n c)
            ∧ t.commit.generation = s.commit.generation ∧ t.agent.settings = s.agent.settings
            ∧ t.inbound = s.inbound ∧ t.fPort = s.fPort ∧ t.report.unacked = s.report.unacked
            ∧ (s.groups.length = 4 → s.handsOver t)
            ∧ ((s.entry e.toNat).run.waiting = false →
                t.table = s.table.modify e.toNat (fun x => { x with run := x.run.cleared })
                  ∧ t.commit = s.commit ∧ t.report = s.report)))

/-- MAP-REMOVE (R42, R33): NOT-FOUND for an absent key, changing nothing; otherwise DONE, the key finds nothing, every other
key finds what it found, and an entry that does not wait receives the run-state reset alone; the groups are handed the result
(R68, R136). -/
def Obligations.MapRemoveRemovesTheKey : Prop :=
  ∀ (s : State) (target tag node channel : Byte), s.accepts target tag [node, channel] →
    let outcome := exec (.mapRemove target tag [node, channel]) s
    (s.lookup node.toNat channel.toNat = none → outcome = .next (s.afterHEnd.answered tag 0x06 .notFound []))
    ∧ (∀ e, s.lookup node.toNat channel.toNat = some e →
        ∃ t, outcome = .next t
          ∧ t.agent.responses = s.agent.responses ++ [answer tag 0x06 .done false []]
          ∧ t.agent.recent = (s.answered tag 0x06 .done []).agent.recent
          ∧ t.lookup node.toNat channel.toNat = none
          ∧ (∀ n c : Nat, (n, c) ≠ (node.toNat, channel.toNat) → t.lookup n c = s.lookup n c)
          ∧ t.commit.generation = s.commit.generation ∧ t.agent.settings = s.agent.settings
          ∧ t.inbound = s.inbound ∧ t.fPort = s.fPort ∧ t.report.unacked = s.report.unacked
          ∧ (s.groups.length = 4 → s.handsOver t)
          ∧ ((s.entry e).run.waiting = false →
              t.table = s.table.modify e (fun x => { x with run := x.run.cleared })
                ∧ t.commit = s.commit ∧ t.report = s.report))

/-- A map change to an entry that waits (R38, R41, R42, R102, R107, R108): MAP-REMOVE of its key, or MAP-ADD of a key to it (to
the upper entry of a waiting unit), switches its whole unit out of turn under generation C, and the entry named is then
reset; no entry outside the unit changes. The map keeps the law of R39. The forced count stays, and the commit completes, with COMMIT-DONE carrying that
count, exactly where the unit was the last that waited. The groups are handed the result. The position and the age
that a switch leaves an IDLE entry rest on assumptions 12 and 13. -/
def Obligations.MapChangeSwitchesAWaitingUnit : Prop :=
  ∀ (s : State) (i : Instr) (target tag node channel : Byte) (e : Nat),
    (i = .mapRemove target tag [node, channel] ∧ s.accepts target tag [node, channel]
        ∧ s.lookup node.toNat channel.toNat = some e)
      ∨ (∃ e8 : Byte, e8.toNat = e ∧ i = .mapAdd target tag [node, channel, e8] ∧ s.accepts target tag [node, channel, e8]
        ∧ node.toNat < 64 ∧ channel.toNat < 16 ∧ s.lookup node.toNat channel.toNat = none ∧ s.mapped e = false) →
    s.mapLaw → s.table.length = 96 → s.groups.length = 4 → e < 96 → (s.entry e).run.waiting = true →
    ∃ t, exec i s = .next t
      ∧ (∀ k ∈ s.unit e, k ≠ e → s.switchedTo s.commit.generation true k (s.entry k) (t.entry k))
      ∧ (t.entry e).live = (s.entry e).staging ∧ (t.entry e).staging = (s.entry e).staging
      ∧ (t.entry e).run = { RunState.initial with generation := s.commit.generation }
      ∧ (∀ k, k ∉ s.unit e → t.entry k = s.entry k)
      ∧ s.handsOver t
      ∧ (s.commit.pending = true → s.waitsOnlyIn (s.unit e) →
          t.commit = { s.commit with pending := false, deadline := 0 }
            ∧ t.report = { s.report with queue := placeEvent s.commit.generation s.commitDone s.report.queue })
      ∧ (s.commit.pending = false ∨ ¬s.waitsOnlyIn (s.unit e) → t.commit = s.commit ∧ t.report = s.report)

/-- COMMIT (R98 to R102, R106, R107): in PENDING refused with BUSY, changing nothing. In IDLE accepted: C rises by 1, each entry
whose unit's lower entry meets one of the five tests of R100 switches (Table 45, R37), the others wait or, at deadline 0, are
forced out of turn; the payload counts those that joined the waiting set; the commit completes with COMMIT-DONE or becomes
PENDING; the groups are handed the result (Table 57). That a switch keeps the age of an entry that was IDLE and watched is the
word of R91 and R93, and R102 is read beside them (assumption 13); the position it leaves an IDLE entry is assumption 12. -/
def Obligations.CommitAcceptsAGeneration : Prop :=
  (∀ (s : State) (target tag d1 d0 : Byte), s.accepts target tag [d1, d0] → s.commit.pending = true →
    exec (.commit target tag [d1, d0]) s = .next (s.afterHEnd.answered tag 0x08 .busy []))
  ∧ ∀ (s : State) (target tag d1 d0 : Byte), s.accepts target tag [d1, d0] → s.commit.pending = false →
    s.table.length = 96 → s.groups.length = 4 → (∀ x ∈ s.table, x.run.waiting = false) →
    let d := 256 * d1.toNat + d0.toNat
    let passes (e : Nat) := (s.entry e).live = (s.entry e).staging ∨ s.mapped e = false
      ∨ ((s.entry e).live.enable = false ∧ (s.entry e).staging.enable = false)
      ∨ (s.entry e).run.condition = .idle ∨ (s.entry e).run.position = 0
    let waits := (List.range 96).countP (fun e => decide (¬passes (s.unitLower e)))
    ∃ t, exec (.commit target tag [d1, d0]) s = .next t
      ∧ t.commit.generation = s.commit.generation + 1
      ∧ t.agent.responses = s.agent.responses ++ [answer tag 0x08 .accepted false [BitVec.ofNat 8 waits]]
      ∧ t.agent.recent = (s.answered tag 0x08 .accepted []).agent.recent
      ∧ (∀ e < 96, passes (s.unitLower e) →
          s.switchedTo (s.commit.generation + 1) false e (s.entry e) (t.entry e))
      ∧ (∀ e < 96, ¬passes (s.unitLower e) → d = 0 →
          s.switchedTo (s.commit.generation + 1) true e (s.entry e) (t.entry e))
      ∧ (∀ e < 96, ¬passes (s.unitLower e) → d ≠ 0 →
          t.entry e = { s.entry e with run := { (s.entry e).run with waiting := true } })
      ∧ (waits = 0 ∨ d = 0 → t.commit.pending = false ∧ t.commit.deadline = 0 ∧ t.commit.forcedCount = waits
          ∧ t.report.queue = placeEvent (s.commit.generation + 1)
              ⟨.commit, .commitDone, .routine, s.commit.generation + 1, none, some waits⟩ s.report.queue)
      ∧ (waits ≠ 0 → d ≠ 0 → t.commit.pending = true ∧ t.commit.deadline = d ∧ t.commit.forcedCount = 0
          ∧ t.report = s.report)
      ∧ s.handsOver t ∧ t.map = s.map ∧ t.inbound = s.inbound ∧ t.agent.settings = s.agent.settings

/-- REPORT-ACK (R129): the frame of the sequence named and every older one leave the list, their number is the payload, and
nothing is added to the loss; a sequence not in the list is answered NOT-FOUND, changing nothing. -/
def Obligations.ReportAckIsCumulative : Prop :=
  (∀ (s : State) (target tag n : Byte) (older newer : List ReportFrame) (f : ReportFrame), s.accepts target tag [n] →
    s.report.unacked = older ++ f :: newer → f.sequence = n → (∀ x ∈ older, x.sequence ≠ n) →
    exec (.reportAck target tag [n]) s = .next
      ({ s.afterHEnd with report := { s.report with unacked := newer } }.answered tag 0x09 .done
        [BitVec.ofNat 8 (older.length + 1)]))
  ∧ ∀ (s : State) (target tag n : Byte), s.accepts target tag [n] → (∀ x ∈ s.report.unacked, x.sequence ≠ n) →
    exec (.reportAck target tag [n]) s = .next (s.afterHEnd.answered tag 0x09 .notFound [])

/-- TRIP-ACK (R137, R138, Table 58): one group, all four with FFh, or RANGE. A LATCHED group becomes CLEAR, an ASSERTED one
stays and answers ACTIVE; the payload is the group-states byte afterwards, two bits a group, group 0 lowest, 0 CLEAR, 1
ASSERTED, 2 LATCHED (Table 16); sets and everything else stay. -/
def Obligations.TripAckReleasesLatchedGroups : Prop :=
  (∀ (s : State) (g : Nat), g < 4 → let code := s.groupStates.toNat / 4 ^ g % 4
    (code = 0 ↔ (s.group g).state = .clear) ∧ (code = 1 ↔ (s.group g).state = .asserted)
      ∧ (code = 2 ↔ (s.group g).state = .latched))
  ∧ ∀ (s : State) (target tag g : Byte), s.accepts target tag [g] → s.groups.length = 4 →
    let after (chosen : Nat → Bool) : State :=
      { s.afterHEnd with
        groups := s.groups.zipIdx.map fun (x : TripGroup × Nat) =>
          if chosen x.2 = true ∧ x.1.state = .latched then { x.1 with state := .clear } else x.1 }
    (g.toNat < 4 → exec (.tripAck target tag [g]) s = .next
      ((after (fun k => k == g.toNat)).answered tag 0x0A (if (s.group g.toNat).state = .asserted then .active else .done)
        [(after (fun k => k == g.toNat)).groupStates]))
    ∧ (g.toNat = 255 → exec (.tripAck target tag [g]) s = .next
      ((after (fun _ => true)).answered tag 0x0A
        (if s.groups.any (fun x => x.state == .asserted) then .active else .done) [(after (fun _ => true)).groupStates]))
    ∧ (4 ≤ g.toNat → g.toNat ≠ 255 → exec (.tripAck target tag [g]) s = .next (s.afterHEnd.answered tag 0x0A .range []))

/-- WRITE-SETTINGS (R88, R139, R173, R174): INVALID, then BUSY for a change of tick period in PENDING, each storing nothing;
otherwise DONE, the record stored whole, the tick generator restarted exactly where the period differs, a LATCHED group made
FOLLOW becoming CLEAR, and nothing else changed. -/
def Obligations.WriteSettingsStoresTheRecord : Prop :=
  ∀ (s : State) (target tag : Byte) (record : List Byte), s.accepts target tag record → record.length = 5 →
    (decodeSettings record = none →
      exec (.writeSettings target tag record) s = .next (s.afterHEnd.answered tag 0x0C .invalid []))
    ∧ (∀ x, decodeSettings record = some x → s.commit.pending = true → x.tickPeriod ≠ s.agent.settings.tickPeriod →
        exec (.writeSettings target tag record) s = .next (s.afterHEnd.answered tag 0x0C .busy []))
    ∧ (∀ x, decodeSettings record = some x → s.commit.pending = false ∨ x.tickPeriod = s.agent.settings.tickPeriod →
        exec (.writeSettings target tag record) s = .next
          ({ s.afterHEnd with
              agent := { s.agent with settings := x }
              elapsed := if x.tickPeriod = s.agent.settings.tickPeriod then s.elapsed else 0
              groups := s.groups.zipIdx.map fun (g : TripGroup × Nat) =>
                if x.latch g.2 = false ∧ g.1.state = GroupState.latched then { g.1 with state := .clear } else g.1 }.answered tag 0x0C
            .done []))

/-- RESET addressed to the stage (R111, R176): the eight steps. Waiting entries forced with no COMMIT-DONE, run states reset
with generation C, groups CLEAR, the inbound queue and both lists emptied without loss, receptions abandoned without a count,
RESTARTED with extra REQUEST the only record, DONE the only response and no entry recorded; the address, settings, counters,
receive states, transmissions, map, staging slots, C and the generator's phase kept. -/
def Obligations.AddressedResetIsARequestReset : Prop :=
  ∀ (s : State) (target tag : Byte), s.accepts target tag [] → s.generationLaw →
    ∃ t, exec (.reset target tag []) s = .next t
      ∧ t.table = s.table.map (fun x =>
          ⟨if x.run.waiting then x.staging else x.live, x.staging,
            { RunState.initial with generation := s.commit.generation }⟩)
      ∧ t.commit.generation = s.commit.generation ∧ t.commit.pending = false ∧ t.commit.deadline = 0
      ∧ t.groups = s.groups.map (fun _ => ⟨[], .clear⟩)
      ∧ t.inbound = [] ∧ t.map = s.map ∧ t.elapsed = s.elapsed ∧ t.promotion = 0
      ∧ t.hPort = { s.hPort with rx := { s.hPort.rx with silence := 0, reception := .between } }
      ∧ t.fPort = { s.fPort with rx := { s.fPort.rx with reception := .between } }
      ∧ t.report = ⟨[⟨.restart, .restarted, .restarted, true, 1, s.commit.generation, none, some 2⟩], [], 0⟩
      ∧ t.agent = ⟨s.agent.address, [answer tag 0x0D .done false []], [], [], s.agent.counters, s.agent.settings, .request⟩
      ∧ t.power = s.power ∧ t.rstn = s.rstn ∧ t.pending = s.pending

/-! ## The qualifier and the schedule (chapters 4 and 5) -/

/-- The raw value of a matched pair is the 32-bit number its halves spell (R49), and the evaluated value is the raw value plus
the offset, held to the width (R53). -/
def Obligations.EvaluatedValueSaturatesToTheWidth : Prop :=
  (∀ lower upper : Half, pairValue lower upper = (upper ++ lower : BitVec 32).toInt
    ∧ -2147483648 ≤ pairValue lower upper ∧ pairValue lower upper ≤ 2147483647)
  ∧ ∀ (r : ConfigRecord) (raw : Int), r.inWidth (r.evaluated raw) = true
    ∧ (r.inWidth (raw + r.offset) = true → r.evaluated raw = raw + r.offset)
    ∧ (r.pair = false → 32767 < raw + r.offset → r.evaluated raw = 32767)
    ∧ (r.pair = false → raw + r.offset < -32768 → r.evaluated raw = -32768)
    ∧ (r.pair = true → 2147483647 < raw + r.offset → r.evaluated raw = 2147483647)
    ∧ (r.pair = true → raw + r.offset < -2147483648 → r.evaluated raw = -2147483648)

/-- The four tests of R54 and what a valid record makes of them. -/
def Obligations.WindowTestsAreExact : Prop :=
  ∀ (r : ConfigRecord) (v : Int),
    (r.above v = true ↔ r.highCheck = true ∧ r.high < v)
    ∧ (r.below v = true ↔ r.lowCheck = true ∧ v < r.low)
    ∧ (r.clearHigh v = true ↔ r.highCheck = false ∨ v ≤ r.high - r.hysteresis)
    ∧ (r.clearLow v = true ↔ r.lowCheck = false ∨ r.low + r.hysteresis ≤ v)
    ∧ (r.above v = false → r.below v = false → r.judge .normal 0 v = ⟨.normal, 0, []⟩)
    ∧ (∀ e, r.valid e = true → ¬(r.above v = true ∧ r.below v = true))
    ∧ (r.clearHigh v = true → r.above v = false) ∧ (r.clearLow v = true → r.below v = false)
    ∧ (∀ e, r.valid e = true → r.highCheck = true → r.lowCheck = true →
        r.low + r.hysteresis ≤ r.high - r.hysteresis ∧ (r.clearHigh v = true ∨ r.clearLow v = true))
    ∧ (r.highCheck = true → r.inWidth v = true → r.high - r.hysteresis < r.widthMin → r.clearHigh v = false)
    ∧ (r.lowCheck = true → r.inWidth v = true → r.widthMax < r.low + r.hysteresis → r.clearLow v = false)

/-- Enter and return persistence are counted in consecutive arrivals (R55 to R59): fewer than pe values above leave RISING with
their number, the pe-th raises ENTER-HIGH; fewer than pr clear values leave HIGH-CLEARING with their number, the pr-th raises
RETURN and is judged once more from NORMAL; LOW is the mirror. A value that breaks the run ends the count: in RISING one that
is not above is judged as from NORMAL, one inside leaving NORMAL with count 0; in HIGH and HIGH-CLEARING one that is not
clear-high leaves HIGH with count 0, without an event. -/
def Obligations.PersistenceCountsConsecutiveArrivals : Prop :=
  (∀ (r : ConfigRecord) (values : List Int), values ≠ [] →
    let after (c : Condition) := values.foldl (fun (x : Verdict) v => r.judge x.condition x.persistence v) ⟨c, 0, []⟩
    ((∀ v ∈ values, r.above v = true) →
      (values.length < r.enterPersistence → after .normal = ⟨.rising, values.length, []⟩)
      ∧ (values.length = r.enterPersistence → after .normal = ⟨.high, 0, [.enterHigh]⟩))
    ∧ ((∀ v ∈ values, r.below v = true ∧ r.above v = false) →
      (values.length < r.enterPersistence → after .normal = ⟨.falling, values.length, []⟩)
      ∧ (values.length = r.enterPersistence → after .normal = ⟨.low, 0, [.enterLow]⟩))
    ∧ ((∀ v ∈ values, r.clearHigh v = true) →
      (values.length < r.returnPersistence → after .high = ⟨.highClearing, values.length, []⟩)
      ∧ (values.length = r.returnPersistence → ∀ v, values.getLast? = some v →
          after .high = ⟨(r.judge .normal 0 v).condition, (r.judge .normal 0 v).persistence,
            .returned :: (r.judge .normal 0 v).events⟩))
    ∧ ((∀ v ∈ values, r.clearLow v = true) →
      (values.length < r.returnPersistence → after .low = ⟨.lowClearing, values.length, []⟩)
      ∧ (values.length = r.returnPersistence → ∀ v, values.getLast? = some v →
          after .low = ⟨(r.judge .normal 0 v).condition, (r.judge .normal 0 v).persistence,
            .returned :: (r.judge .normal 0 v).events⟩)))
  ∧ ∀ (r : ConfigRecord) (k : Nat) (v : Int),
    (r.above v = false → r.judge .rising k v = r.judge .normal 0 v)
      ∧ (r.below v = false → r.judge .falling k v = r.judge .normal 0 v)
      ∧ (r.above v = false → r.below v = false →
          r.judge .rising k v = ⟨.normal, 0, []⟩ ∧ r.judge .falling k v = ⟨.normal, 0, []⟩)
      ∧ (r.clearHigh v = false → r.judge .high 0 v = ⟨.high, 0, []⟩ ∧ r.judge .highClearing k v = ⟨.high, 0, []⟩)
      ∧ (r.clearLow v = false → r.judge .low 0 v = ⟨.low, 0, []⟩ ∧ r.judge .lowClearing k v = ⟨.low, 0, []⟩)

/-- Every judgement keeps the persistence law of R32 and Table 32, leaves neither IDLE nor STALE, raises at most two events
(R64), and raises RESUME exactly from STALE (R60). -/
def Obligations.JudgementKeepsTheCountRanges : Prop :=
  ∀ (r : ConfigRecord) (c : Condition) (k : Nat) (v : Int), 1 ≤ r.enterPersistence → 1 ≤ r.returnPersistence →
    r.countOk c k = true →
    r.countOk (r.judge c k v).condition (r.judge c k v).persistence = true
      ∧ (r.judge c k v).condition ≠ .idle ∧ (r.judge c k v).condition ≠ .stale
      ∧ (r.judge c k v).events.length ≤ 2
      ∧ (.resume ∈ (r.judge c k v).events ↔ c = .stale)
      ∧ ((r.judge c k v).condition.tag = .high ↔
          (r.judge c k v).condition = .high ∨ (r.judge c k v).condition = .highClearing)

/-- How duty and period combine (R75), for the positions of a period and for the invalid arrivals of a quiet channel, which are
evaluated arrivals whatever the condition, IDLE included (R61, R72): each is counted, and of each period's the lesser of W and
P are forwarded. That they advance the position of an entry that stays IDLE is assumption 12. -/
def Obligations.ScheduleKeepsTheDutyOfEachPeriod : Prop :=
  (∀ r : ConfigRecord, 1 ≤ r.period →
    (r.duty = 0 → ∀ p tag raised,
      r.forwards p tag raised = ((r.alarmBurst && (tag == .high || tag == .low)) || raised))
    ∧ (r.period ≤ r.duty → ∀ p < r.period, ∀ tag raised, r.forwards p tag raised = true)
    ∧ (∀ p < r.duty, ∀ tag raised, r.forwards p tag raised = true)
    ∧ (∀ p tag raised, r.duty ≤ p →
        r.forwards p tag raised = ((r.alarmBurst && (tag == .high || tag == .low)) || raised))
    ∧ (List.range r.period).countP (fun p => r.forwards p .normal false) = min r.duty r.period
    ∧ (∀ p tag raised, r.forwards p .normal false = true → r.forwards p tag raised = true)
    ∧ (∀ n : Nat, r.advance^[n] 0 = n % r.period))
  ∧ (∀ tag raised, ConfigRecord.default.forwards 0 tag raised = true)
  ∧ (∀ x : RunState, x.cleared.position = 0)
  ∧ ∀ (r : ConfigRecord) (x : RunState), 1 ≤ r.period → x.position = 0 →
    let before (n : Nat) := (fun y => r.runAfter y none)^[n] x
    (∀ n, (before n).position = n % r.period)
      ∧ (x.condition = .idle → ∀ n, (before n).condition = .idle)
      ∧ (x.condition ≠ .stale →
          (List.range r.period).countP (fun n => r.keeps (before n) none) = min r.duty r.period)

/-- The arrivals of a frame (R47, R48): the k-th lower half of a pair goes with its k-th upper half, a half left over is split,
every single sample is an arrival of its own, nothing else is, and they stand in frame order, a pair at its first half. The
two halves of a matched pair are both forwarded or both removed, each out of its own place (R76), with channel, quality and
value as they arrived (R65); no other sample changes. -/
def Obligations.MatchedHalvesShareOneDecision : Prop :=
  (∀ roles : List Role,
    let first (a : Arrival) : Nat := match a with | .single _ i => i | .matched _ i j => min i j | .split _ i => i
    (arrivalsOf roles).Pairwise (fun a b => first a < first b)
    ∧ (∀ e i : Nat, .single e i ∈ arrivalsOf roles ↔ roles[i]? = some (.single e))
    ∧ ∀ e i j : Nat,
        let lowers := (List.range roles.length).filter fun n => roles[n]? == some (.lower e)
        let uppers := (List.range roles.length).filter fun n => roles[n]? == some (.upper e)
        (.matched e i j ∈ arrivalsOf roles ↔ ∃ k : Nat, lowers[k]? = some i ∧ uppers[k]? = some j)
        ∧ (.split e i ∈ arrivalsOf roles ↔ ∃ k : Nat,
            (lowers[k]? = some i ∧ uppers.length ≤ k) ∨ (uppers[k]? = some i ∧ lowers.length ≤ k)))
  ∧ ∀ (c : FrameClaim) (e i j : Nat) (x y : Sample), i ≠ j → c.samples[i]? = some (some x) → c.samples[j]? = some (some y) →
    let d := c.take (.matched e i j)
    (d.samples.getD i none).isSome = (d.samples.getD j none).isSome
      ∧ (∀ k, k ≠ i → k ≠ j → d.samples[k]? = c.samples[k]?)
      ∧ (∀ z, d.samples[i]? = some (some z) → z.channel = x.channel ∧ z.valid = x.valid ∧ z.value = x.value)
      ∧ (∀ z, d.samples[j]? = some (some z) → z.channel = y.channel ∧ z.valid = y.valid ∧ z.value = y.value)

/-- FRAME_CLAIM (R28, R45, R46, R47, R66, R68, R77, R78, R81). On a frame whose samples all pass untouched, the oldest PENDING
frame becomes READY in its place with its own bytes, and nothing else in the device changes; without a PENDING frame nothing
changes. On any frame, its arrivals are taken one after another, in frame order, each on what the one before it left, by the
roles decided at the start (Table 31); the frame then goes on with its own bytes where no arrival was evaluated, rewritten with the
samples that are left, or is dropped where none is; the groups are handed the result at the end. An arrival of a unit closed
by a switch in this frame passes untouched. -/
def Obligations.UntouchedFrameBecomesReady : Prop :=
  (∀ (s : State) (bytes : List Byte) (before after : List InboundFrame), s.tickDone = true → s.tripLaw →
    s.inbound = before ++ ⟨.pending, bytes⟩ :: after → (∀ f ∈ before, f.state ≠ .pending) →
    (∀ x ∈ frameSamples bytes, s.roleOf (frameNode bytes) x = .untouched) →
    exec .frameClaim s = .next { s with inbound := before ++ InboundFrame.mk .ready bytes :: after }.withdrawPromotion)
  ∧ (∀ s : State, s.tickDone = true → (∀ f ∈ s.inbound, f.state ≠ .pending) →
    exec .frameClaim s = .next s.withdrawPromotion)
  ∧ (∀ (s : State) (bytes : List Byte) (before after : List InboundFrame), s.tickDone = true → s.groups.length = 4 →
    s.inbound = before ++ ⟨.pending, bytes⟩ :: after → (∀ f ∈ before, f.state ≠ .pending) →
    let samples := frameSamples bytes
    let arrivals := arrivalsOf (samples.map (s.roleOf (frameNode bytes)))
    let c := arrivals.foldl FrameClaim.take ⟨s, samples.map some, [], false⟩
    let left := c.samples.filterMap id
    ∃ t, exec .frameClaim s = .next t
      ∧ t.table = c.state.table ∧ t.report = c.state.report ∧ t.commit = c.state.commit ∧ t.map = s.map
      ∧ t.agent = s.agent ∧ t.hPort = s.hPort ∧ t.fPort = s.fPort ∧ s.handsOver t
      ∧ (c.changed = false → t.inbound = before ++ ⟨.ready, bytes⟩ :: after)
      ∧ (c.changed = true → left ≠ [] →
          t.inbound = before ++ ⟨.ready, sampleFrameBytes (byteAt bytes 1) left⟩ :: after)
      ∧ (c.changed = true → left = [] → t.inbound = before ++ after))
  ∧ (∀ (c : FrameClaim) (a : Arrival), a.entry ∈ c.closed → c.take a = c)
  ∧ ∀ (s : State) (node : Nat) (x : Sample),
    (x.qualified = true → s.roleOf node x = .untouched)
    ∧ (x.qualified = false → s.lookup node x.channel = none → s.roleOf node x = .untouched)
    ∧ ∀ e, x.qualified = false → s.lookup node x.channel = some e →
      let pairedUpper := e % 2 = 1 ∧ (s.entry (e - 1)).live.pair = true
      (¬pairedUpper → (s.entry e).live.enable = false → s.roleOf node x = .untouched)
      ∧ (¬pairedUpper → (s.entry e).live.enable = true → (s.entry e).live.pair = false → s.roleOf node x = .single e)
      ∧ (¬pairedUpper → (s.entry e).live.enable = true → (s.entry e).live.pair = true → s.roleOf node x = .lower e)
      ∧ (pairedUpper → s.mapped (e - 1) = true → (s.entry (e - 1)).live.enable = true →
          s.roleOf node x = .upper (e - 1))
      ∧ (pairedUpper → s.mapped (e - 1) = false ∨ (s.entry (e - 1)).live.enable = false →
          s.roleOf node x = .untouched)

/-- FRAME_CLAIM on a frame of one valid sample in the single role, its entry not waiting (R47, R51, R62, R64, R65, R73, R74,
R77, R78, R116): condition, count, last value, age, position, tally and last event kind of that entry, the events in order,
the frame tagged and READY or dropped, the groups handed the result; no other entry changes. Then each arrival of any claim,
at an entry that does not wait: a single sample or a matched pair, valid (R49, R51) or invalid, which resets the age, resumes
a STALE entry and leaves the rest of the judgement as it stood (R61), with its samples tagged and kept or removed; and a split
half (R50), which adds 1 to the split count, raises SPLIT and resets the age. An invalid arrival to
an IDLE entry is counted by the period and advances its position (R61, R72, R74, over R32; assumption 12). -/
def Obligations.SingleSampleIsQualified : Prop :=
  (∀ (s : State) (node : Byte) (x : Sample) (e : Nat), s.tickDone = true → s.table.length = 96 → e < 96 →
    s.groups.length = 4 → s.inbound = [⟨.pending, sampleFrameBytes node [x]⟩] →
    s.lookup node.toNat x.channel = some e → x.qualified = false → x.valid = true →
    s.pairedUpper e = false → (s.entry e).live.enable = true → (s.entry e).live.pair = false →
    (s.entry e).run.waiting = false →
    let r := (s.entry e).live
    let run := (s.entry e).run
    let v := r.evaluated x.value.toInt
    let verdict := r.judge run.condition run.persistence v
    let kept := r.forwards run.position verdict.condition.tag (!verdict.events.isEmpty)
    ∃ t, exec .frameClaim s = .next t
      ∧ (t.entry e).run =
        { run with
          condition := verdict.condition
          persistence := verdict.persistence
          lastValue := some v
          age := 0
          position := r.advance run.position
          tally := verdict.events.foldl (fun n _ => min 255 (n + 1)) run.tally
          lastKind := verdict.events.foldl (fun _ k => some k) run.lastKind }
      ∧ (t.entry e).live = r ∧ (t.entry e).staging = (s.entry e).staging
      ∧ (∀ i, i ≠ e → t.entry i = s.entry i)
      ∧ t.inbound = (if kept then [⟨.ready, sampleFrameBytes node [x.tagged verdict.condition.tag]⟩] else [])
      ∧ t.report.queue = verdict.events.foldl (fun q k =>
          if r.eventClass k = .silent then q
          else placeEvent s.commit.generation ⟨.entry e, k, r.eventClass k, run.generation, some v, none⟩ q) s.report.queue
      ∧ s.handsOver t
      ∧ t.map = s.map ∧ t.commit = s.commit ∧ t.agent = s.agent ∧ t.hPort = s.hPort ∧ t.fPort = s.fPort)
  ∧ (∀ (c : FrameClaim) (a : Arrival) (e : Nat) (places : List Nat) (raw : Option Int), c.evaluates a e places raw →
    c.state.table.length = 96 → e < 96 → e ∉ c.closed → (c.state.entry e).run.waiting = false →
    let s := c.state
    let x := s.entry e
    let d := c.take a
    d.state.entry e = { x with run := x.live.runAfter x.run raw }
      ∧ (∀ i, i ≠ e → d.state.entry i = s.entry i)
      ∧ d.state = { s with table := d.state.table, report := { s.report with queue := s.queueAfter e raw } }
      ∧ c.decided d places (x.live.keeps x.run raw) (x.live.tagOf x.run raw)
      ∧ d.closed = c.closed ∧ d.changed = true)
  ∧ ∀ (c : FrameClaim) (e place : Nat), c.state.table.length = 96 → e < 96 → e ∉ c.closed →
    let s := c.state
    let run := (s.entry e).run
    let d := c.take (.split e place)
    d.state.entry e =
        { s.entry e with
          run := { run with
            age := 0
            splitCount := min 255 (run.splitCount + 1)
            tally := min 255 (run.tally + 1)
            lastKind := some .split } }
      ∧ (∀ i, i ≠ e → d.state.entry i = s.entry i)
      ∧ d.state =
        { s with
          table := d.state.table
          report := { s.report with
            queue := placeEvent s.commit.generation ⟨.entry e, .split, .routine, run.generation, none, none⟩ s.report.queue } }
      ∧ d.samples = c.samples ∧ d.closed = c.closed ∧ d.changed = c.changed

/-- The switch at a schedule boundary (R66, R98, R101, R102, R103, R107). FRAME_CLAIM of one sample: a waiting single entry
whose evaluated arrival brings its position back to 0 switches in the same claim; one that does not reach its boundary keeps
waiting under its old record. Then any evaluated arrival of a claim at the lower or only entry of a waiting unit: the arrival
is taken under the old record; at the boundary every entry of the unit then switches (Table 45, R37), the commit completes,
with COMMIT-DONE after the arrival's events, exactly where no other unit waits, and where the switch changes the enable or the
pair field every later arrival of the unit in the frame passes untouched; short of the boundary nothing switches. An
evaluated arrival at the upper entry of a waiting unit switches nothing, wherever it leaves that entry's own position. The
position and the age that a switch leaves an IDLE entry rest on assumptions 12 and 13. -/
def Obligations.BoundarySwitchesAWaitingEntry : Prop :=
  (∀ (s : State) (node : Byte) (x : Sample) (e : Nat), s.tickDone = true → s.table.length = 96 → e < 96 →
    s.groups.length = 4 → s.inbound = [⟨.pending, sampleFrameBytes node [x]⟩] →
    s.lookup node.toNat x.channel = some e → x.qualified = false →
    s.pairedUpper e = false → (s.entry e).live.enable = true → (s.entry e).live.pair = false →
    s.unit e = [e] → (s.entry e).run.waiting = true →
    let old := s.entry e
    let raw := if x.valid then some x.value.toInt else none
    ∃ t, exec .frameClaim s = .next t ∧ s.handsOver t
      ∧ (old.run.position + 1 = old.live.period →
          s.switchedTo s.commit.generation false e { old with run := old.live.runAfter old.run raw } (t.entry e))
      ∧ (old.run.position + 1 < old.live.period →
          t.entry e = { old with run := old.live.runAfter old.run raw } ∧ t.commit = s.commit))
  ∧ (∀ (c : FrameClaim) (a : Arrival) (e : Nat) (places : List Nat) (raw : Option Int), c.evaluates a e places raw →
    c.state.table.length = 96 → e < 96 → e ∉ c.closed → (c.state.entry e).run.waiting = true →
    c.state.unitUpper e = true →
    let s := c.state
    let x := s.entry e
    let d := c.take a
    d.state.entry e = { x with run := x.live.runAfter x.run raw }
      ∧ (∀ i, i ≠ e → d.state.entry i = s.entry i)
      ∧ d.state = { s with table := d.state.table, report := { s.report with queue := s.queueAfter e raw } }
      ∧ c.decided d places (x.live.keeps x.run raw) (x.live.tagOf x.run raw)
      ∧ d.closed = c.closed ∧ d.changed = true)
  ∧ ∀ (c : FrameClaim) (a : Arrival) (e : Nat) (places : List Nat) (raw : Option Int), c.evaluates a e places raw →
    c.state.table.length = 96 → e < 96 → e ∉ c.closed → (c.state.entry e).run.waiting = true →
    c.state.unitUpper e = false →
    let s := c.state
    let old := s.entry e
    let taken := { old with run := old.live.runAfter old.run raw }
    let d := c.take a
    c.decided d places (old.live.keeps old.run raw) (old.live.tagOf old.run raw)
    ∧ (old.run.position + 1 = old.live.period →
        (∀ i ∈ s.unit e, s.switchedTo s.commit.generation false i (if i = e then taken else s.entry i) (d.state.entry i))
        ∧ (∀ i, i ∉ s.unit e → d.state.entry i = s.entry i)
        ∧ (s.commit.pending = true → s.waitsOnlyIn (s.unit e) →
            d.state.commit = { s.commit with pending := false, deadline := 0 }
              ∧ d.state.report.queue = placeEvent s.commit.generation s.commitDone (s.queueAfter e raw))
        ∧ (s.commit.pending = false ∨ ¬s.waitsOnlyIn (s.unit e) →
            d.state.commit = s.commit ∧ d.state.report.queue = s.queueAfter e raw)
        ∧ (old.staging.enable = old.live.enable → old.staging.pair = old.live.pair → d.closed = c.closed)
        ∧ (old.staging.enable ≠ old.live.enable ∨ old.staging.pair ≠ old.live.pair →
            ∀ b : Arrival, b.entry ∈ s.unit e → d.take b = d))
    ∧ (old.run.position + 1 < old.live.period →
        d.state.entry e = taken ∧ (∀ i, i ≠ e → d.state.entry i = s.entry i) ∧ d.closed = c.closed
          ∧ d.state.commit = s.commit ∧ d.state.report.queue = s.queueAfter e raw)

/-! ## Ticks (chapter 6, R105, R126) -/

/-- TICK (R87, R90, R92, R105, R126): every watched entry's age rises by 1, staying at 65535, the entries the comparison finds at
their limit are due to become STALE, the deadline of a pending commit falls by 1, each unacknowledged frame that is neither
due nor in transmission counts one tick, and the generator starts from 0; nothing else changes. That TICK leaves the STALE
entries, the forcing and the expiries it has found to their own commands is the model's split of a tick (assumption 7). Where
the deadline does not run out, the order of aging and deadline step makes no difference (R96). Where it runs out and the
commit controller comes first, every entry is aged and compared as the forcing leaves it: u is what DEADLINE_FORCING makes of
the state with deadline 0. -/
def Obligations.TickReachesItsThreeOwners : Prop :=
  (∀ s : State, s.tickDone = true → s.running = true → s.table.length = 96 →
    ∃ t, exec (.tick false) s = .next t
      ∧ t.elapsed = 0
      ∧ (∀ e < 96, t.entry e = s.entryAged e)
      ∧ t.staleDue = s.atLimit
      ∧ t.commit = { s.commit with deadline := if s.commit.pending then s.commit.deadline - 1 else s.commit.deadline }
      ∧ t.report.queue = s.report.queue ∧ t.report.nextSequence = s.report.nextSequence
      ∧ t.report.unacked = s.report.unacked.map s.frameTicked
      ∧ t.map = s.map ∧ t.groups = s.groups ∧ t.inbound = s.inbound ∧ t.agent = s.agent ∧ t.hPort = s.hPort
      ∧ t.fPort = s.fPort)
  ∧ (∀ s : State, s.tickDone = true → s.running = true → ¬(s.commit.pending = true ∧ s.commit.deadline ≤ 1) →
      exec (.tick true) s = exec (.tick false) s)
  ∧ (∀ s : State, s.tickDone = true → s.running = true → s.table.length = 96 → s.groups.length = 4 →
    s.commit.pending = true → s.commit.deadline ≤ 1 →
    ∃ u t, exec .deadlineForcing { s with commit := { s.commit with deadline := 0 } } = .next u
      ∧ exec (.tick true) s = .next t
      ∧ t.elapsed = 0
      ∧ (∀ e < 96, t.entry e = u.entryAged e)
      ∧ t.staleDue = u.atLimit
      ∧ t.commit = u.commit ∧ t.groups = u.groups
      ∧ t.report.queue = u.report.queue ∧ t.report.nextSequence = s.report.nextSequence
      ∧ t.report.unacked = s.report.unacked.map s.frameTicked
      ∧ t.map = s.map ∧ t.inbound = s.inbound ∧ t.agent = s.agent ∧ t.hPort = s.hPort ∧ t.fPort = s.fPort)
  ∧ ∀ (s : State) (b : Bool), s.tickDone = true → s.running = false → exec (.tick b) s = .next s.withdrawPromotion

/-- STALE of the first entry the tick claim has found at its limit (R92, R93, R115, R116; the split of the claim into commands is
assumption 7): condition STALE, persistence count 0, the event tallied and placed with the live slot's stale class; age,
position and last value stay, and no other entry changes. The groups are handed the change at the end of the claim (R68, Table 57). -/
def Obligations.StaleEntryRaisesStale : Prop :=
  ∀ (s : State) (e : Nat) (rest : List Nat), s.staleDue = e :: rest → (∀ i ∈ rest, e < i) → s.staleReached e = true →
    s.table.length = 96 → e < 96 → s.groups.length = 4 →
    ∃ t, exec (.stale e) s = .next t
      ∧ (t.entry e).run = { (s.entry e).run with
          condition := .stale, persistence := 0, tally := min 255 ((s.entry e).run.tally + 1), lastKind := some .stale }
      ∧ (t.entry e).live = (s.entry e).live ∧ (t.entry e).staging = (s.entry e).staging
      ∧ (∀ i, i ≠ e → t.entry i = s.entry i)
      ∧ t.report.queue = (if (s.entry e).live.staleClass = .silent then s.report.queue
          else placeEvent s.commit.generation
            ⟨.entry e, .stale, (s.entry e).live.staleClass, (s.entry e).run.generation, none, none⟩ s.report.queue)
      ∧ t.report.unacked = s.report.unacked ∧ t.staleDue = rest ∧ t.commit = s.commit ∧ t.map = s.map ∧ t.agent = s.agent
      ∧ t.inbound = s.inbound
      ∧ (rest ≠ [] → t.groups = s.groups)
      ∧ (rest = [] → s.handsOver t)

/-- DEADLINE_FORCING (R98, R101, R102, R106, R107): every waiting entry switches out of turn under generation C (Table 45, R37),
no other entry changes, the commit becomes IDLE with COMMIT-DONE carrying their number, and the groups are handed the result
(Table 57). The position and the age that a switch leaves an IDLE entry rest on assumptions 12 and 13. -/
def Obligations.DeadlineForcesEveryWaitingEntry : Prop :=
  ∀ s : State, s.staleDue = [] → s.commit.pending = true → s.commit.deadline = 0 → s.table.length = 96 →
    s.groups.length = 4 →
    let forced := (List.range 96).countP (fun e => (s.entry e).run.waiting)
    ∃ t, exec .deadlineForcing s = .next t
      ∧ (∀ e < 96, (s.entry e).run.waiting = true →
          s.switchedTo s.commit.generation true e (s.entry e) (t.entry e))
      ∧ (∀ e, (s.entry e).run.waiting = false → t.entry e = s.entry e)
      ∧ t.commit = ⟨s.commit.generation, false, 0, forced⟩
      ∧ t.report =
        { s.report with
          queue := placeEvent s.commit.generation
            ⟨.commit, .commitDone, .routine, s.commit.generation, none, some forced⟩ s.report.queue }
      ∧ s.handsOver t
      ∧ t.map = s.map ∧ t.agent = s.agent ∧ t.inbound = s.inbound

/-- RETRY_EXPIRY (R127, R128): an expired frame with sends left becomes due; one whose sends are spent leaves the list with every
older frame, each adding the number of its records to the loss, oldest first. -/
def Obligations.RetryExpiryRetriesOrDiscards : Prop :=
  ∀ (s : State) (older newer : List ReportFrame) (f : ReportFrame),
    s.report.unacked = older ++ f :: newer → f.expired = true →
    (∀ x ∈ older, x.sequence ≠ f.sequence) → (∀ x ∈ newer, x.sequence ≠ f.sequence) →
    (f.sendCount < 1 + s.agent.settings.retryLimit →
      exec (.retryExpiry f.sequence) s = .next
        { s with
          report := { s.report with
            unacked := older ++ { f with due := true, expired := false } :: newer } }.withdrawPromotion)
    ∧ (1 + s.agent.settings.retryLimit ≤ f.sendCount →
      exec (.retryExpiry f.sequence) s = .next
        { s with
          report := { s.report with
            unacked := newer
            queue := (older ++ [f]).foldl
              (fun q (x : ReportFrame) => addLoss s.commit.generation x.records.length q)
              s.report.queue } }.withdrawPromotion)

/-! ## The report unit (chapter 8) -/

/-- Placing an URGENT or ROUTINE event (R114, R117, R118, R120, Table 52): coalesce in place, append, displace the oldest
ROUTINE record, or lose the event; the two last add 1 to the loss. Adding k to the loss (R121) changes the LOSS record in place
or creates it as the newest record, and additions one after another leave their sum and their number (R128, R134). -/
def Obligations.EventPlacementAndLoss : Prop :=
  (∀ (c : Byte) (ev : Event) (q : List ReportRecord),
    (∀ (older newer : List ReportRecord) (r : ReportRecord), q = older ++ r :: newer → r.subject = ev.subject →
      (∀ x ∈ older ++ newer, x.subject ≠ ev.subject) →
      placeEvent c ev q = older
        ++ ⟨r.subject, r.firstKind, ev.kind, r.urgent || ev.eventClass == .urgent, min 255 (r.repeatCount + 1),
            ev.generation, ev.value, ev.extra⟩
        :: newer)
    ∧ ((∀ x ∈ q, x.subject ≠ ev.subject) → generalRecords q < 31 →
      placeEvent c ev q = q
        ++ [⟨ev.subject, ev.kind, ev.kind, ev.eventClass == .urgent, 1, ev.generation, ev.value, ev.extra⟩])
    ∧ (∀ (older newer : List ReportRecord) (r : ReportRecord), q = older ++ r :: newer → r.urgent = false →
      (∀ x ∈ older, x.urgent = true) → (∀ x ∈ q, x.subject ≠ ev.subject) → 31 ≤ generalRecords q →
      ev.eventClass = .urgent →
      placeEvent c ev q = addLoss c 1 (older ++ newer
        ++ [⟨ev.subject, ev.kind, ev.kind, true, 1, ev.generation, ev.value, ev.extra⟩]))
    ∧ ((∀ x ∈ q, x.subject ≠ ev.subject) → 31 ≤ generalRecords q →
      (ev.eventClass ≠ .urgent ∨ ∀ x ∈ q, x.urgent = true) → placeEvent c ev q = addLoss c 1 q))
  ∧ (∀ (c : Byte) (k : Nat) (q : List ReportRecord), (∀ x ∈ q, x.subject ≠ .loss) →
    addLoss c k q = q ++ [⟨.loss, .lost, .lost, true, 1, c, none, some (min 65535 k)⟩])
  ∧ (∀ (c : Byte) (k n : Nat) (older newer : List ReportRecord) (r : ReportRecord), r.subject = .loss →
    r.extra = some n → (∀ x ∈ older ++ newer, x.subject ≠ .loss) →
    addLoss c k (older ++ r :: newer) = older
      ++ ⟨.loss, r.firstKind, .lost, true, min 255 (r.repeatCount + 1), c, r.value, some (min 65535 (n + k))⟩ :: newer)
  ∧ ∀ (c : Byte) (ks : List Nat) (q : List ReportRecord), ks ≠ [] → (∀ x ∈ q, x.subject ≠ .loss) →
    ks.foldl (fun q k => addLoss c k q) q
      = q ++ [⟨.loss, .lost, .lost, true, min 255 ks.length, c, none, some (min 65535 ks.sum)⟩]

/-! ## Arbitration and transmission (chapter 10, section 1.5) -/

/-- The arbiter's choice among the present claims (R146, Table 63), and when each claim is present (Table 62, R82, R123,
R144). -/
def Obligations.ArbiterChoosesByTable63 : Prop :=
  ∀ s : State,
    (s.urgentClaim = true ↔ s.agent.address ≠ none
      ∧ ((∃ f ∈ s.report.unacked, f.due = true ∧ ∃ r ∈ f.records, r.urgent = true)
        ∨ (s.report.unacked.length < 4 ∧ ∃ r ∈ s.report.queue, r.urgent = true)))
    ∧ (s.routineClaim = true ↔ s.agent.address ≠ none
      ∧ ((∃ f ∈ s.report.unacked, f.due = true ∧ ∀ r ∈ f.records, r.urgent = false)
        ∨ (s.report.unacked.length < 4 ∧ s.report.queue ≠ [])))
    ∧ (s.responseClaim = true ↔ s.agent.responses ≠ [] ∧ s.agent.address ≠ none)
    ∧ (s.transitClaim = true ↔ ∃ f rest, s.inbound = f :: rest ∧ f.state = .ready)
    ∧ (s.urgentClaim = true → s.choice = some .urgent)
    ∧ (s.urgentClaim = false → s.promotion = 8 → s.routineClaim = true → s.choice = some .routine)
    ∧ (s.urgentClaim = false → ¬(s.promotion = 8 ∧ s.routineClaim = true) →
        (s.responseClaim = true → s.choice = some .response)
        ∧ (s.responseClaim = false → s.transitClaim = true → s.choice = some .transit)
        ∧ (s.responseClaim = false → s.transitClaim = false →
            s.choice = if s.routineClaim then some .routine else none))

/-- When GRANT makes no grant (R145, R150): a reset holds the device, a frame is in transmission, the gap or the run of 32 is
still being sent (fields of the model, assumption 11), the H line is not UP, or no claim is present. And what no grant does
while the stage is UNASSIGNED (R123, R144): send a frame that carries an address. -/
def Obligations.GrantNeedsItsConditions : Prop :=
  (∀ s : State, s.tickDone = true →
    (s.running = false ∨ s.hPort.tx.frame ≠ none ∨ s.hPort.tx.gapLeft ≠ 0
        ∨ (s.hPort.tx.longGap = 16 ∧ s.hPort.tx.idleRun < 32) ∨ s.hPort.rx.state ≠ .up ∨ s.choice = none) →
    exec .grant s = .next s.withdrawPromotion)
  ∧ ∀ (s t : State) (x : Sending), s.tickDone = true → s.agent.address = none → s.hPort.tx.frame = none →
    exec .grant s = .next t → t.hPort.tx.frame = some x → x.source = .transit

/-- GRANT to transit and to response (R13, R82, R147, R148): the head frame enters transmission with its bytes, or the oldest
response goes out under the address held, an ADDRESSED one under its own; the promotion counter rises exactly while the
ROUTINE report claim is present. The transmitter is idle before the grant, its gap sent (State.grantPossible). -/
def Obligations.GrantSendsTransitOrResponse : Prop :=
  (∀ (s : State) (f : InboundFrame) (rest : List InboundFrame), s.tickDone = true → s.grantPossible = true →
    s.choice = some .transit → s.inbound = f :: rest →
    ∃ t, exec .grant s = .next t
      ∧ t.inbound = ⟨.inTransmission, f.bytes⟩ :: rest ∧ t.hPort.tx.frame = some ⟨f.bytes, .transit, 0⟩
      ∧ t.promotion = (if s.routineClaim then s.promotion + 1 else 0)
      ∧ t.hPort.rx = s.hPort.rx ∧ t.fPort = s.fPort ∧ t.table = s.table ∧ t.map = s.map ∧ t.commit = s.commit
      ∧ t.report = s.report ∧ t.agent = s.agent ∧ t.groups = s.groups)
  ∧ ∀ (s : State) (r : Response) (rest : List Response) (a : Byte), s.tickDone = true → s.grantPossible = true →
    s.choice = some .response → s.agent.responses = r :: rest → s.agent.address = some a →
    ∃ t, exec .grant s = .next t
      ∧ t.agent = { s.agent with responses := { r with granted := true } :: rest }
      ∧ t.hPort.tx.frame = some ⟨r.bytes (r.address.getD a), .response, 0⟩
      ∧ t.promotion = (if s.routineClaim then s.promotion + 1 else 0)
      ∧ t.hPort.rx = s.hPort.rx ∧ t.fPort = s.fPort ∧ t.table = s.table ∧ t.map = s.map ∧ t.commit = s.commit
      ∧ t.report = s.report ∧ t.inbound = s.inbound ∧ t.groups = s.groups

/-- GRANT to a report claim (R124, R125, R126, R127, R147, Table 53): with no due frame of the class, a new frame of the oldest
records it may take, at most four and at least one, joins the list under the next sequence and is sent under the stage's
address; with one, the oldest is sent again with its records. The ROUTINE grant returns the promotion counter to 0,
an URGENT one leaves it as it stands, and it is 0 wherever the ROUTINE claim is absent afterwards. The transmitter is idle before the grant, its gap sent (State.grantPossible). -/
def Obligations.GrantSendsReports : Prop :=
  (∀ (s : State) (a : Byte) (k : ClaimKind), s.tickDone = true → s.grantPossible = true → s.choice = some k →
    k = .urgent ∨ k = .routine → s.agent.address = some a →
    (∀ f ∈ s.report.unacked, f.due = true → f.urgent ≠ (k == .urgent)) →
    let may (r : ReportRecord) := k == .routine || r.urgent
    let taken := (s.report.queue.filter may).take 4
    ∃ t, exec .grant s = .next t
      ∧ 1 ≤ taken.length
      ∧ t.report.unacked = s.report.unacked ++ [⟨s.report.nextSequence, taken, 1, 0, false, false⟩]
      ∧ t.report.nextSequence = s.report.nextSequence + 1
      ∧ t.report.queue.filter (fun r => !may r) = s.report.queue.filter (fun r => !may r)
      ∧ t.report.queue.filter may = (s.report.queue.filter may).drop 4
      ∧ t.report.queue.Sublist s.report.queue
      ∧ t.hPort.tx.frame
          = some ⟨reportFrameBytes a s.report.nextSequence taken, .report s.report.nextSequence, 0⟩
      ∧ (k = .routine → t.promotion = 0)
      ∧ (k = .urgent → t.promotion = if t.routineClaim then s.promotion else 0)
      ∧ t.inbound = s.inbound ∧ t.agent = s.agent ∧ t.table = s.table ∧ t.commit = s.commit ∧ t.map = s.map)
  ∧ ∀ (s : State) (a : Byte) (k : ClaimKind) (older newer : List ReportFrame) (f : ReportFrame), s.tickDone = true →
    s.grantPossible = true → s.choice = some k → k = .urgent ∨ k = .routine → s.agent.address = some a →
    s.report.unacked = older ++ f :: newer → f.due = true → f.urgent = (k == .urgent) →
    (∀ x ∈ older, x.due = true → x.urgent ≠ (k == .urgent)) →
    (∀ x ∈ older ++ newer, x.sequence ≠ f.sequence) →
    ∃ t, exec .grant s = .next t
      ∧ t.report.unacked = older ++ { f with sendCount := f.sendCount + 1, ticks := 0, due := false } :: newer
      ∧ t.report.queue = s.report.queue ∧ t.report.nextSequence = s.report.nextSequence
      ∧ t.hPort.tx.frame = some ⟨reportFrameBytes a f.sequence f.records, .report f.sequence, 0⟩
      ∧ (k = .routine → t.promotion = 0)
      ∧ (k = .urgent → t.promotion = if t.routineClaim then s.promotion else 0)
      ∧ t.inbound = s.inbound ∧ t.agent = s.agent ∧ t.table = s.table ∧ t.commit = s.commit ∧ t.map = s.map

/-- H_TRANSMISSION_COMPLETE, F_TRANSMIT_START and F_TRANSMISSION_COMPLETE (R1, R13, R14, R15): completion frees the transmitter,
which owes 2 IDLE symbols, or 32 at long-gap count 16, and releases the transit buffer, the response or the outbound frame
where it is still held; a report frame releases nothing, and neither does a completion that finds an emptied queue, or another
frame at its head that was never handed over. The F transmitter, its gap sent, takes the oldest outbound frame, and while the
gap lasts it takes none. The symbols owed, the idle run and the last output are fields of the model (assumption 11). -/
def Obligations.TransmissionsStartAndComplete : Prop :=
  (∀ (s : State) (x : Sending), s.tickDone = true → s.hPort.tx.frame = some x →
    ∃ t, exec .hTransmissionComplete s = .next t
      ∧ t.hPort = { s.hPort with tx :=
          ⟨none, if s.hPort.tx.longGap = 16 then 32 else 2, 0, s.hPort.tx.longGap, .symbol .stop⟩ }
      ∧ t.fPort = s.fPort ∧ t.table = s.table ∧ t.map = s.map ∧ t.commit = s.commit ∧ t.report = s.report
      ∧ t.agent.outbound = s.agent.outbound ∧ t.agent.recent = s.agent.recent ∧ t.agent.address = s.agent.address
      ∧ (∀ f rest, s.inbound = f :: rest → x.source = .transit → f.state = .inTransmission →
          t.inbound = rest ∧ t.agent = s.agent)
      ∧ (∀ r rest, s.agent.responses = r :: rest → x.source = .response → r.granted = true →
          t.agent = { s.agent with responses := rest } ∧ t.inbound = s.inbound)
      ∧ ((∃ n, x.source = .report n) ∨ (x.source = .transit ∧ ∀ f ∈ s.inbound.head?, f.state ≠ .inTransmission)
          ∨ (x.source = .response ∧ ∀ r ∈ s.agent.responses.head?, r.granted = false) →
          t.inbound = s.inbound ∧ t.agent = s.agent))
  ∧ (∀ (s : State) (f : OutboundFrame) (rest : List OutboundFrame), s.tickDone = true → s.running = true →
    s.fPort.tx.frame = none → s.agent.outbound = f :: rest →
    (s.fPort.tx.gapLeft = 0 → s.fPort.tx.longGap ≠ 16 ∨ 32 ≤ s.fPort.tx.idleRun →
      ∃ t, exec .fTransmitStart s = .next t
        ∧ t.fPort.tx.frame = some ⟨f.bytes, .outbound, 0⟩ ∧ t.fPort.rx = s.fPort.rx ∧ t.hPort = s.hPort
        ∧ t.fPort.tx.longGap = (if 32 ≤ s.fPort.tx.idleRun then 0 else s.fPort.tx.longGap + 1)
        ∧ t.agent = { s.agent with outbound := { f with taken := true } :: rest }
        ∧ t.inbound = s.inbound ∧ t.table = s.table ∧ t.report = s.report ∧ t.commit = s.commit)
    ∧ (s.fPort.tx.gapLeft ≠ 0 ∨ (s.fPort.tx.longGap = 16 ∧ s.fPort.tx.idleRun < 32) →
      exec .fTransmitStart s = .next s.withdrawPromotion))
  ∧ ∀ (s : State) (x : Sending), s.tickDone = true → s.fPort.tx.frame = some x →
    ∃ t, exec .fTransmissionComplete s = .next t
      ∧ t.fPort = { s.fPort with tx :=
          ⟨none, if s.fPort.tx.longGap = 16 then 32 else 2, 0, s.fPort.tx.longGap, .symbol .stop⟩ }
      ∧ t.hPort = s.hPort ∧ t.inbound = s.inbound ∧ t.table = s.table ∧ t.report = s.report ∧ t.commit = s.commit
      ∧ (∀ f rest, s.agent.outbound = f :: rest → f.taken = true → t.agent = { s.agent with outbound := rest })
      ∧ ((∀ f ∈ s.agent.outbound.head?, f.taken = false) → t.agent = s.agent)

/-- A transmitter sends a frame of n bytes as START, the n bytes in order, and END, in n + 2 byte times (R1). Without a frame it
sends IDLE: the symbols owed count down, the run of IDLE counts up to 32, where the long-gap count returns to 0, and the
transmitter is idle from when the rest of its gap, and of the run of 32, has gone out (R14, R145). The byte time as a step of
the transmitter is the model's (assumption 2), and so are the fields of the gap (assumption 11). -/
def Obligations.TransmitterSendsStartBytesEnd : Prop :=
  (∀ (s : State) (p : Port), (s.port p).tx.frame = none →
    let x := (s.port p).tx
    let after (n : Nat) := (((fun u : State => u.transmit p)^[n] s).port p).tx
    (after 1).frame = none ∧ (after 1).out = .symbol .idle ∧ (after 1).gapLeft = x.gapLeft - 1
      ∧ (after 1).idleRun = min 32 (x.idleRun + 1)
      ∧ (x.idleRun + 1 < 32 → (after 1).longGap = x.longGap) ∧ (32 ≤ x.idleRun + 1 → (after 1).longGap = 0)
      ∧ ((s.transmit p).port p).rx = (s.port p).rx
      ∧ (∀ q, q ≠ p → (s.transmit p).port q = s.port q)
      ∧ ∀ n, ((after n).isIdle = true ↔ x.gapLeft ≤ n ∧ (x.longGap = 16 → 32 ≤ x.idleRun + n)))
  ∧ ∀ (s : State) (p : Port) (bytes : List Byte) (source : Supplier),
    (s.port p).tx.frame = some ⟨bytes, source, 0⟩ →
    let after (n : Nat) := (((fun u : State => u.transmit p)^[n] s).port p).tx
    (after 1).out = .symbol .start
      ∧ (∀ (i : Nat) (b : Byte), bytes[i]? = some b → (after (i + 2)).out = .symbol (.data b))
      ∧ (after (bytes.length + 2)).out = .symbol .stop ∧ (after (bytes.length + 2)).frame = none
      ∧ ∀ n < bytes.length + 2, (after n).frame ≠ none

/-- Each trip line follows its group's state and polarity (R140, Table 59), whatever else the device holds; while a reset holds
the device it is at the deasserted level (R141). -/
def Obligations.TripLineFollowsGroupAndPolarity : Prop :=
  ∀ (s : State) (g : Nat), g < 4 →
    (s.running = true →
      (s.agent.settings.assertedHigh g = false →
        (s.tripLine g = .low ↔ (s.group g).state = .asserted ∨ (s.group g).state = .latched))
      ∧ (s.agent.settings.assertedHigh g = true →
        (s.tripLine g = .high ↔ (s.group g).state = .asserted ∨ (s.group g).state = .latched)))
    ∧ (s.running = false → s.tripLine g = if s.agent.settings.assertedHigh g then .low else .high)
    ∧ (s.agent.settings.assertedHigh g = true ↔ s.agent.settings.trip.toNat / 2 ^ (4 + g) % 2 = 1)

/-! ## Encodings (chapter 2) -/

/-- A configuration record and its 24 bytes determine each other (R25, Table 19): what decodes is stored so that the same bytes
read back, and a record that an entry can store decodes from the bytes that are read back. So do a settings record and its 5
bytes (Table 20), and exactly the settings records that R25 calls invalid do not decode. -/
def Obligations.RecordsReadBackAsWritten : Prop :=
  (∀ (bytes : List Byte) (r : ConfigRecord), decodeRecord bytes = some r → r.bytes = bytes)
    ∧ (∀ (r : ConfigRecord) (e : Nat), r.stored e → r.duty ≤ 255 → r.staleLimit ≤ 65535 →
      (∀ g ∈ r.tripGroup, g < 4) → decodeRecord r.bytes = some r)
    ∧ (∀ (bytes : List Byte) (x : Settings), decodeSettings bytes = some x → x.bytes = bytes)
    ∧ (∀ x : Settings, 1 ≤ x.retryInterval → x.retryInterval ≤ 255 → x.retryLimit ≤ 15 → decodeSettings x.bytes = some x)
    ∧ ∀ a b c d e : Byte, decodeSettings [a, b, c, d, e] = none ↔ 3 < a.toNat ∨ b = 0 ∨ 15 < c.toNat ∨ 2 < d.toNat

/-- Running the CRC over a whole intact frame, CRC included, leaves the register at 0 (R19), so every frame with a fresh CRC
passes the check of R10; and the CRC of the digits 1 to 9 is 29B1h. -/
def Obligations.CrcOfAnIntactFrameIsZero : Prop :=
  (∀ body : List Byte, crc (withCrc body) = 0)
    ∧ (∀ bytes : List Byte, 3 ≤ bytes.length → (crcOk bytes = true ↔ crc bytes = 0))
    ∧ crc [0x31, 0x32, 0x33, 0x34, 0x35, 0x36, 0x37, 0x38, 0x39] = 0x29B1

/-- The frames the device forms are well-formed, each of its own kind (R20, R21, R23, R24), as a forwarded request is (R22),
and hold what they were formed of, field by field (Tables 11, 13, 14 and 15), a report record among them with its subject,
kinds, flags, repeat count, generation and the value or extra it has. -/
def Obligations.FormedFramesAreWellFormed : Prop :=
  (∀ (node : Byte) (xs : List Sample), node.toNat < 64 → xs.length ≤ 16 →
    checkFrame (sampleFrameBytes node xs) = some .sample ∧ frameSamples (sampleFrameBytes node xs) = xs
      ∧ frameNode (sampleFrameBytes node xs) = node.toNat ∧ (sampleFrameBytes node xs).length = 5 + 3 * xs.length)
  ∧ (∀ (a n : Byte) (records : List ReportRecord), 1 ≤ a.toNat → a.toNat ≤ 30 → 1 ≤ records.length → records.length ≤ 4 →
    (∀ r ∈ records, r.wf ∧ ∀ e, r.subject = .entry e → e < 96) →
    let b := reportFrameBytes a n records
    checkFrame b = some .report ∧ b.length ≤ 42
      ∧ byteAt b 1 = a ∧ byteAt b 2 = n ∧ (byteAt b 3).toNat = records.length
      ∧ (frameBody b).drop 4 = records.flatMap ReportRecord.bytes)
  ∧ (∀ r : ReportRecord, r.wf → let b := r.bytes
    (∀ e < 96, r.subject = .entry e → (byteAt b 0).toNat = e)
      ∧ (r.subject = .fieldLine → byteAt b 0 = 0xF0) ∧ (r.subject = .commit → byteAt b 0 = 0xF1)
      ∧ (r.subject = .loss → byteAt b 0 = 0xF2) ∧ (r.subject = .restart → byteAt b 0 = 0xF3)
      ∧ (byteAt b 1).toNat / 16 = r.firstKind.code ∧ (byteAt b 1).toNat % 16 = r.lastKind.code
      ∧ (byteAt b 2).getLsbD 0 = r.urgent ∧ (byteAt b 2).getLsbD 1 = r.value.isSome
      ∧ (byteAt b 2).getLsbD 2 = r.extra.isSome ∧ (byteAt b 2).toNat < 8
      ∧ (byteAt b 3).toNat = r.repeatCount ∧ byteAt b 4 = r.generation
      ∧ b.length = 5 + (if r.value.isSome then 4 else 0) + (if r.extra.isSome then 2 else 0)
      ∧ (∀ v ∈ r.value, -2147483648 ≤ v → v ≤ 2147483647 →
          (wordOf (byteAt b 5) (byteAt b 6) (byteAt b 7) (byteAt b 8)).toInt = v)
      ∧ (∀ x ∈ r.extra, x ≤ 65535 → (halfOf (byteAt b 5) (byteAt b 6)).toNat = x))
  ∧ ([EventKind.enterHigh, .enterLow, .returned, .stale, .resume, .split, .fieldDown, .fieldUp, .commitDone, .lost,
      .restarted].map EventKind.code = [1, 2, 3, 4, 5, 6, 7, 8, 9, 10, 11]
    ∧ Status.all.map Status.code = [0x00, 0x01, 0x02, 0x10, 0x11, 0x12, 0x13, 0x14, 0x15, 0x16, 0x20, 0x21])
  ∧ (∀ (a : Byte) (r : Response), 1 ≤ a.toNat → a.toNat ≤ 30 → r.payload.length ≤ 55 →
    let b := r.bytes a
    checkFrame b = some .response ∧ b.length = 9 + r.payload.length
      ∧ byteAt b 1 = a ∧ byteAt b 2 = r.tag ∧ byteAt b 3 = r.op ∧ byteAt b 4 = r.status.code
      ∧ byteAt b 5 = (if r.repeated then 1 else 0) ∧ (byteAt b 6).toNat = r.payload.length
      ∧ (frameBody b).drop 7 = r.payload)
  ∧ (∀ (target tag op : Byte) (operands : List Byte), requestFieldsOk target operands = true →
    let b := requestFrameBytes target tag op operands
    checkFrame b = some .request ∧ b.length = 7 + operands.length
      ∧ byteAt b 1 = target ∧ byteAt b 2 = tag ∧ byteAt b 3 = op ∧ (byteAt b 4).toNat = operands.length
      ∧ requestOperands b = operands)
  ∧ ∀ mode next flags tag : Byte, enumerationFieldsOk mode next flags = true →
    let b := enumerationFrameBytes mode next flags tag
    checkFrame b = some .enumeration ∧ b.length = 7
      ∧ byteAt b 1 = mode ∧ byteAt b 2 = next ∧ byteAt b 3 = flags ∧ byteAt b 4 = tag

/-! ## The laws that every step keeps -/

/-- Every step keeps the report queue's law (R113). -/
def Obligations.StepKeepsTheReportQueueLaw : Prop :=
  ∀ s t : State, s.reportLaw → step s = .next t → t.reportLaw

/-- Every step keeps the law of the unacknowledged list (R125), and an UNASSIGNED stage holds no report frame and no response
(R123, R144). -/
def Obligations.StepKeepsTheListAndAddressLaws : Prop :=
  ∀ s t : State, s.listLaw → s.addressLaw → step s = .next t → t.listLaw ∧ t.addressLaw

/-- Every step keeps the agent's ranges (R152, R157, R158, R160, R161). -/
def Obligations.StepKeepsTheAgentLaw : Prop :=
  ∀ s t : State, s.agentLaw → step s = .next t → t.agentLaw

/-- Every step keeps the promotion counter's bound (R147). -/
def Obligations.StepKeepsThePromotionLaw : Prop :=
  ∀ s t : State, s.promotionLaw → step s = .next t → t.promotionLaw

/-- Every step keeps the ranges of the ports and of the inbound queue (R1, R2, R3, R9, R16, R79). -/
def Obligations.StepKeepsThePortAndBufferLaws : Prop :=
  ∀ s t : State, s.portLaw → s.inboundLaw → step s = .next t → t.portLaw ∧ t.inboundLaw

/-- Every step keeps the generation law (R98). -/
def Obligations.StepKeepsTheGenerationLaw : Prop :=
  ∀ s t : State, s.generationLaw → step s = .next t → t.generationLaw

/-- Every step keeps the laws of the channel table (R32, R36, R38, R39, R91), in states that keep the generation law. -/
def Obligations.StepKeepsTheTableLaw : Prop :=
  ∀ s t : State, s.tableLaw → s.generationLaw → step s = .next t → t.tableLaw

/-- Every step keeps the law of the trip groups (R135, R136). -/
def Obligations.StepKeepsTheTripLaw : Prop :=
  ∀ s t : State, s.tripLaw → step s = .next t → t.tripLaw
end

