-- ==== Sys2Proof/Laws/State.lean ====
section
/-! SUPPORT. The small lemmas of the state's updates: for each update and each field it leaves alone, one lemma, so that no
proof unfolds a record update. -/

namespace Sys2Proof.Machine

open Sys2Proof

@[simp] theorem State.countDiscard_power (s : State) (p : Port) : (s.countDiscard p).power = s.power := by cases p <;> rfl
@[simp] theorem State.countDiscard_rstn (s : State) (p : Port) : (s.countDiscard p).rstn = s.rstn := by cases p <;> rfl
@[simp] theorem State.countDiscard_hPort (s : State) (p : Port) : (s.countDiscard p).hPort = s.hPort := by cases p <;> rfl
@[simp] theorem State.countDiscard_fPort (s : State) (p : Port) : (s.countDiscard p).fPort = s.fPort := by cases p <;> rfl
@[simp] theorem State.countDiscard_inbound (s : State) (p : Port) : (s.countDiscard p).inbound = s.inbound := by cases p <;> rfl
@[simp] theorem State.countDiscard_map (s : State) (p : Port) : (s.countDiscard p).map = s.map := by cases p <;> rfl
@[simp] theorem State.countDiscard_table (s : State) (p : Port) : (s.countDiscard p).table = s.table := by cases p <;> rfl
@[simp] theorem State.countDiscard_staleDue (s : State) (p : Port) : (s.countDiscard p).staleDue = s.staleDue := by cases p <;> rfl
@[simp] theorem State.countDiscard_elapsed (s : State) (p : Port) : (s.countDiscard p).elapsed = s.elapsed := by cases p <;> rfl
@[simp] theorem State.countDiscard_commit (s : State) (p : Port) : (s.countDiscard p).commit = s.commit := by cases p <;> rfl
@[simp] theorem State.countDiscard_report (s : State) (p : Port) : (s.countDiscard p).report = s.report := by cases p <;> rfl
@[simp] theorem State.countDiscard_groups (s : State) (p : Port) : (s.countDiscard p).groups = s.groups := by cases p <;> rfl
@[simp] theorem State.countDiscard_promotion (s : State) (p : Port) : (s.countDiscard p).promotion = s.promotion := by cases p <;> rfl
@[simp] theorem State.countDiscard_pending (s : State) (p : Port) : (s.countDiscard p).pending = s.pending := by cases p <;> rfl

@[simp] theorem State.countInboundDrop_power (s : State) : s.countInboundDrop.power = s.power := rfl
@[simp] theorem State.countInboundDrop_rstn (s : State) : s.countInboundDrop.rstn = s.rstn := rfl
@[simp] theorem State.countInboundDrop_hPort (s : State) : s.countInboundDrop.hPort = s.hPort := rfl
@[simp] theorem State.countInboundDrop_fPort (s : State) : s.countInboundDrop.fPort = s.fPort := rfl
@[simp] theorem State.countInboundDrop_inbound (s : State) : s.countInboundDrop.inbound = s.inbound := rfl
@[simp] theorem State.countInboundDrop_map (s : State) : s.countInboundDrop.map = s.map := rfl
@[simp] theorem State.countInboundDrop_table (s : State) : s.countInboundDrop.table = s.table := rfl
@[simp] theorem State.countInboundDrop_staleDue (s : State) : s.countInboundDrop.staleDue = s.staleDue := rfl
@[simp] theorem State.countInboundDrop_elapsed (s : State) : s.countInboundDrop.elapsed = s.elapsed := rfl
@[simp] theorem State.countInboundDrop_commit (s : State) : s.countInboundDrop.commit = s.commit := rfl
@[simp] theorem State.countInboundDrop_report (s : State) : s.countInboundDrop.report = s.report := rfl
@[simp] theorem State.countInboundDrop_groups (s : State) : s.countInboundDrop.groups = s.groups := rfl
@[simp] theorem State.countInboundDrop_promotion (s : State) : s.countInboundDrop.promotion = s.promotion := rfl
@[simp] theorem State.countInboundDrop_pending (s : State) : s.countInboundDrop.pending = s.pending := rfl

@[simp] theorem State.countOutboundDrop_power (s : State) : s.countOutboundDrop.power = s.power := rfl
@[simp] theorem State.countOutboundDrop_rstn (s : State) : s.countOutboundDrop.rstn = s.rstn := rfl
@[simp] theorem State.countOutboundDrop_hPort (s : State) : s.countOutboundDrop.hPort = s.hPort := rfl
@[simp] theorem State.countOutboundDrop_fPort (s : State) : s.countOutboundDrop.fPort = s.fPort := rfl
@[simp] theorem State.countOutboundDrop_inbound (s : State) : s.countOutboundDrop.inbound = s.inbound := rfl
@[simp] theorem State.countOutboundDrop_map (s : State) : s.countOutboundDrop.map = s.map := rfl
@[simp] theorem State.countOutboundDrop_table (s : State) : s.countOutboundDrop.table = s.table := rfl
@[simp] theorem State.countOutboundDrop_staleDue (s : State) : s.countOutboundDrop.staleDue = s.staleDue := rfl
@[simp] theorem State.countOutboundDrop_elapsed (s : State) : s.countOutboundDrop.elapsed = s.elapsed := rfl
@[simp] theorem State.countOutboundDrop_commit (s : State) : s.countOutboundDrop.commit = s.commit := rfl
@[simp] theorem State.countOutboundDrop_report (s : State) : s.countOutboundDrop.report = s.report := rfl
@[simp] theorem State.countOutboundDrop_groups (s : State) : s.countOutboundDrop.groups = s.groups := rfl
@[simp] theorem State.countOutboundDrop_promotion (s : State) : s.countOutboundDrop.promotion = s.promotion := rfl
@[simp] theorem State.countOutboundDrop_pending (s : State) : s.countOutboundDrop.pending = s.pending := rfl

@[simp] theorem State.countDroppedRequest_power (s : State) : s.countDroppedRequest.power = s.power := rfl
@[simp] theorem State.countDroppedRequest_rstn (s : State) : s.countDroppedRequest.rstn = s.rstn := rfl
@[simp] theorem State.countDroppedRequest_hPort (s : State) : s.countDroppedRequest.hPort = s.hPort := rfl
@[simp] theorem State.countDroppedRequest_fPort (s : State) : s.countDroppedRequest.fPort = s.fPort := rfl
@[simp] theorem State.countDroppedRequest_inbound (s : State) : s.countDroppedRequest.inbound = s.inbound := rfl
@[simp] theorem State.countDroppedRequest_map (s : State) : s.countDroppedRequest.map = s.map := rfl
@[simp] theorem State.countDroppedRequest_table (s : State) : s.countDroppedRequest.table = s.table := rfl
@[simp] theorem State.countDroppedRequest_staleDue (s : State) : s.countDroppedRequest.staleDue = s.staleDue := rfl
@[simp] theorem State.countDroppedRequest_elapsed (s : State) : s.countDroppedRequest.elapsed = s.elapsed := rfl
@[simp] theorem State.countDroppedRequest_commit (s : State) : s.countDroppedRequest.commit = s.commit := rfl
@[simp] theorem State.countDroppedRequest_report (s : State) : s.countDroppedRequest.report = s.report := rfl
@[simp] theorem State.countDroppedRequest_groups (s : State) : s.countDroppedRequest.groups = s.groups := rfl
@[simp] theorem State.countDroppedRequest_promotion (s : State) : s.countDroppedRequest.promotion = s.promotion := rfl
@[simp] theorem State.countDroppedRequest_pending (s : State) : s.countDroppedRequest.pending = s.pending := rfl

@[simp] theorem State.setRx_power (s : State) (p : Port) (r : RxSide) : (s.setRx p r).power = s.power := by cases p <;> rfl
@[simp] theorem State.setRx_rstn (s : State) (p : Port) (r : RxSide) : (s.setRx p r).rstn = s.rstn := by cases p <;> rfl
@[simp] theorem State.setRx_inbound (s : State) (p : Port) (r : RxSide) : (s.setRx p r).inbound = s.inbound := by cases p <;> rfl
@[simp] theorem State.setRx_map (s : State) (p : Port) (r : RxSide) : (s.setRx p r).map = s.map := by cases p <;> rfl
@[simp] theorem State.setRx_table (s : State) (p : Port) (r : RxSide) : (s.setRx p r).table = s.table := by cases p <;> rfl
@[simp] theorem State.setRx_staleDue (s : State) (p : Port) (r : RxSide) : (s.setRx p r).staleDue = s.staleDue := by cases p <;> rfl
@[simp] theorem State.setRx_elapsed (s : State) (p : Port) (r : RxSide) : (s.setRx p r).elapsed = s.elapsed := by cases p <;> rfl
@[simp] theorem State.setRx_commit (s : State) (p : Port) (r : RxSide) : (s.setRx p r).commit = s.commit := by cases p <;> rfl
@[simp] theorem State.setRx_report (s : State) (p : Port) (r : RxSide) : (s.setRx p r).report = s.report := by cases p <;> rfl
@[simp] theorem State.setRx_groups (s : State) (p : Port) (r : RxSide) : (s.setRx p r).groups = s.groups := by cases p <;> rfl
@[simp] theorem State.setRx_promotion (s : State) (p : Port) (r : RxSide) : (s.setRx p r).promotion = s.promotion := by cases p <;> rfl
@[simp] theorem State.setRx_agent (s : State) (p : Port) (r : RxSide) : (s.setRx p r).agent = s.agent := by cases p <;> rfl
@[simp] theorem State.setRx_pending (s : State) (p : Port) (r : RxSide) : (s.setRx p r).pending = s.pending := by cases p <;> rfl

@[simp] theorem State.setTx_power (s : State) (p : Port) (x : TxSide) : (s.setTx p x).power = s.power := by cases p <;> rfl
@[simp] theorem State.setTx_rstn (s : State) (p : Port) (x : TxSide) : (s.setTx p x).rstn = s.rstn := by cases p <;> rfl
@[simp] theorem State.setTx_inbound (s : State) (p : Port) (x : TxSide) : (s.setTx p x).inbound = s.inbound := by cases p <;> rfl
@[simp] theorem State.setTx_map (s : State) (p : Port) (x : TxSide) : (s.setTx p x).map = s.map := by cases p <;> rfl
@[simp] theorem State.setTx_table (s : State) (p : Port) (x : TxSide) : (s.setTx p x).table = s.table := by cases p <;> rfl
@[simp] theorem State.setTx_staleDue (s : State) (p : Port) (x : TxSide) : (s.setTx p x).staleDue = s.staleDue := by cases p <;> rfl
@[simp] theorem State.setTx_elapsed (s : State) (p : Port) (x : TxSide) : (s.setTx p x).elapsed = s.elapsed := by cases p <;> rfl
@[simp] theorem State.setTx_commit (s : State) (p : Port) (x : TxSide) : (s.setTx p x).commit = s.commit := by cases p <;> rfl
@[simp] theorem State.setTx_report (s : State) (p : Port) (x : TxSide) : (s.setTx p x).report = s.report := by cases p <;> rfl
@[simp] theorem State.setTx_groups (s : State) (p : Port) (x : TxSide) : (s.setTx p x).groups = s.groups := by cases p <;> rfl
@[simp] theorem State.setTx_promotion (s : State) (p : Port) (x : TxSide) : (s.setTx p x).promotion = s.promotion := by cases p <;> rfl
@[simp] theorem State.setTx_agent (s : State) (p : Port) (x : TxSide) : (s.setTx p x).agent = s.agent := by cases p <;> rfl
@[simp] theorem State.setTx_pending (s : State) (p : Port) (x : TxSide) : (s.setTx p x).pending = s.pending := by cases p <;> rfl

@[simp] theorem State.closeReception_power (s : State) (p : Port) : (s.closeReception p).power = s.power := by cases p <;> rfl
@[simp] theorem State.closeReception_rstn (s : State) (p : Port) : (s.closeReception p).rstn = s.rstn := by cases p <;> rfl
@[simp] theorem State.closeReception_inbound (s : State) (p : Port) : (s.closeReception p).inbound = s.inbound := by cases p <;> rfl
@[simp] theorem State.closeReception_map (s : State) (p : Port) : (s.closeReception p).map = s.map := by cases p <;> rfl
@[simp] theorem State.closeReception_table (s : State) (p : Port) : (s.closeReception p).table = s.table := by cases p <;> rfl
@[simp] theorem State.closeReception_staleDue (s : State) (p : Port) : (s.closeReception p).staleDue = s.staleDue := by cases p <;> rfl
@[simp] theorem State.closeReception_elapsed (s : State) (p : Port) : (s.closeReception p).elapsed = s.elapsed := by cases p <;> rfl
@[simp] theorem State.closeReception_commit (s : State) (p : Port) : (s.closeReception p).commit = s.commit := by cases p <;> rfl
@[simp] theorem State.closeReception_report (s : State) (p : Port) : (s.closeReception p).report = s.report := by cases p <;> rfl
@[simp] theorem State.closeReception_groups (s : State) (p : Port) : (s.closeReception p).groups = s.groups := by cases p <;> rfl
@[simp] theorem State.closeReception_promotion (s : State) (p : Port) : (s.closeReception p).promotion = s.promotion := by cases p <;> rfl
@[simp] theorem State.closeReception_agent (s : State) (p : Port) : (s.closeReception p).agent = s.agent := by cases p <;> rfl
@[simp] theorem State.closeReception_pending (s : State) (p : Port) : (s.closeReception p).pending = s.pending := by cases p <;> rfl

@[simp] theorem State.sendOutward_power (s : State) (bytes : List Byte) : (s.sendOutward bytes).power = s.power := by unfold State.sendOutward; split <;> rfl
@[simp] theorem State.sendOutward_rstn (s : State) (bytes : List Byte) : (s.sendOutward bytes).rstn = s.rstn := by unfold State.sendOutward; split <;> rfl
@[simp] theorem State.sendOutward_hPort (s : State) (bytes : List Byte) : (s.sendOutward bytes).hPort = s.hPort := by unfold State.sendOutward; split <;> rfl
@[simp] theorem State.sendOutward_fPort (s : State) (bytes : List Byte) : (s.sendOutward bytes).fPort = s.fPort := by unfold State.sendOutward; split <;> rfl
@[simp] theorem State.sendOutward_inbound (s : State) (bytes : List Byte) : (s.sendOutward bytes).inbound = s.inbound := by unfold State.sendOutward; split <;> rfl
@[simp] theorem State.sendOutward_map (s : State) (bytes : List Byte) : (s.sendOutward bytes).map = s.map := by unfold State.sendOutward; split <;> rfl
@[simp] theorem State.sendOutward_table (s : State) (bytes : List Byte) : (s.sendOutward bytes).table = s.table := by unfold State.sendOutward; split <;> rfl
@[simp] theorem State.sendOutward_staleDue (s : State) (bytes : List Byte) : (s.sendOutward bytes).staleDue = s.staleDue := by unfold State.sendOutward; split <;> rfl
@[simp] theorem State.sendOutward_elapsed (s : State) (bytes : List Byte) : (s.sendOutward bytes).elapsed = s.elapsed := by unfold State.sendOutward; split <;> rfl
@[simp] theorem State.sendOutward_commit (s : State) (bytes : List Byte) : (s.sendOutward bytes).commit = s.commit := by unfold State.sendOutward; split <;> rfl
@[simp] theorem State.sendOutward_report (s : State) (bytes : List Byte) : (s.sendOutward bytes).report = s.report := by unfold State.sendOutward; split <;> rfl
@[simp] theorem State.sendOutward_groups (s : State) (bytes : List Byte) : (s.sendOutward bytes).groups = s.groups := by unfold State.sendOutward; split <;> rfl
@[simp] theorem State.sendOutward_promotion (s : State) (bytes : List Byte) : (s.sendOutward bytes).promotion = s.promotion := by unfold State.sendOutward; split <;> rfl
@[simp] theorem State.sendOutward_pending (s : State) (bytes : List Byte) : (s.sendOutward bytes).pending = s.pending := by unfold State.sendOutward; split <;> rfl

@[simp] theorem State.respond_power (s : State) (r : Response) : (s.respond r).power = s.power := rfl
@[simp] theorem State.respond_rstn (s : State) (r : Response) : (s.respond r).rstn = s.rstn := rfl
@[simp] theorem State.respond_hPort (s : State) (r : Response) : (s.respond r).hPort = s.hPort := rfl
@[simp] theorem State.respond_fPort (s : State) (r : Response) : (s.respond r).fPort = s.fPort := rfl
@[simp] theorem State.respond_inbound (s : State) (r : Response) : (s.respond r).inbound = s.inbound := rfl
@[simp] theorem State.respond_map (s : State) (r : Response) : (s.respond r).map = s.map := rfl
@[simp] theorem State.respond_table (s : State) (r : Response) : (s.respond r).table = s.table := rfl
@[simp] theorem State.respond_staleDue (s : State) (r : Response) : (s.respond r).staleDue = s.staleDue := rfl
@[simp] theorem State.respond_elapsed (s : State) (r : Response) : (s.respond r).elapsed = s.elapsed := rfl
@[simp] theorem State.respond_commit (s : State) (r : Response) : (s.respond r).commit = s.commit := rfl
@[simp] theorem State.respond_report (s : State) (r : Response) : (s.respond r).report = s.report := rfl
@[simp] theorem State.respond_groups (s : State) (r : Response) : (s.respond r).groups = s.groups := rfl
@[simp] theorem State.respond_promotion (s : State) (r : Response) : (s.respond r).promotion = s.promotion := rfl
@[simp] theorem State.respond_pending (s : State) (r : Response) : (s.respond r).pending = s.pending := rfl

@[simp] theorem State.record_power (s : State) (tag : Byte) (status : Status) : (s.record tag status).power = s.power := rfl
@[simp] theorem State.record_rstn (s : State) (tag : Byte) (status : Status) : (s.record tag status).rstn = s.rstn := rfl
@[simp] theorem State.record_hPort (s : State) (tag : Byte) (status : Status) : (s.record tag status).hPort = s.hPort := rfl
@[simp] theorem State.record_fPort (s : State) (tag : Byte) (status : Status) : (s.record tag status).fPort = s.fPort := rfl
@[simp] theorem State.record_inbound (s : State) (tag : Byte) (status : Status) : (s.record tag status).inbound = s.inbound := rfl
@[simp] theorem State.record_map (s : State) (tag : Byte) (status : Status) : (s.record tag status).map = s.map := rfl
@[simp] theorem State.record_table (s : State) (tag : Byte) (status : Status) : (s.record tag status).table = s.table := rfl
@[simp] theorem State.record_staleDue (s : State) (tag : Byte) (status : Status) : (s.record tag status).staleDue = s.staleDue := rfl
@[simp] theorem State.record_elapsed (s : State) (tag : Byte) (status : Status) : (s.record tag status).elapsed = s.elapsed := rfl
@[simp] theorem State.record_commit (s : State) (tag : Byte) (status : Status) : (s.record tag status).commit = s.commit := rfl
@[simp] theorem State.record_report (s : State) (tag : Byte) (status : Status) : (s.record tag status).report = s.report := rfl
@[simp] theorem State.record_groups (s : State) (tag : Byte) (status : Status) : (s.record tag status).groups = s.groups := rfl
@[simp] theorem State.record_promotion (s : State) (tag : Byte) (status : Status) : (s.record tag status).promotion = s.promotion := rfl
@[simp] theorem State.record_pending (s : State) (tag : Byte) (status : Status) : (s.record tag status).pending = s.pending := rfl

@[simp] theorem State.modifyRun_power (s : State) (e : Nat) (f : RunState → RunState) : (s.modifyRun e f).power = s.power := rfl
@[simp] theorem State.modifyRun_rstn (s : State) (e : Nat) (f : RunState → RunState) : (s.modifyRun e f).rstn = s.rstn := rfl
@[simp] theorem State.modifyRun_hPort (s : State) (e : Nat) (f : RunState → RunState) : (s.modifyRun e f).hPort = s.hPort := rfl
@[simp] theorem State.modifyRun_fPort (s : State) (e : Nat) (f : RunState → RunState) : (s.modifyRun e f).fPort = s.fPort := rfl
@[simp] theorem State.modifyRun_inbound (s : State) (e : Nat) (f : RunState → RunState) : (s.modifyRun e f).inbound = s.inbound := rfl
@[simp] theorem State.modifyRun_map (s : State) (e : Nat) (f : RunState → RunState) : (s.modifyRun e f).map = s.map := rfl
@[simp] theorem State.modifyRun_staleDue (s : State) (e : Nat) (f : RunState → RunState) : (s.modifyRun e f).staleDue = s.staleDue := rfl
@[simp] theorem State.modifyRun_elapsed (s : State) (e : Nat) (f : RunState → RunState) : (s.modifyRun e f).elapsed = s.elapsed := rfl
@[simp] theorem State.modifyRun_commit (s : State) (e : Nat) (f : RunState → RunState) : (s.modifyRun e f).commit = s.commit := rfl
@[simp] theorem State.modifyRun_report (s : State) (e : Nat) (f : RunState → RunState) : (s.modifyRun e f).report = s.report := rfl
@[simp] theorem State.modifyRun_groups (s : State) (e : Nat) (f : RunState → RunState) : (s.modifyRun e f).groups = s.groups := rfl
@[simp] theorem State.modifyRun_promotion (s : State) (e : Nat) (f : RunState → RunState) : (s.modifyRun e f).promotion = s.promotion := rfl
@[simp] theorem State.modifyRun_agent (s : State) (e : Nat) (f : RunState → RunState) : (s.modifyRun e f).agent = s.agent := rfl
@[simp] theorem State.modifyRun_pending (s : State) (e : Nat) (f : RunState → RunState) : (s.modifyRun e f).pending = s.pending := rfl

@[simp] theorem State.switchEntries_power (s : State) (c : Nat → Entry → Bool) (b : Bool) : (s.switchEntries c b).power = s.power := rfl
@[simp] theorem State.switchEntries_rstn (s : State) (c : Nat → Entry → Bool) (b : Bool) : (s.switchEntries c b).rstn = s.rstn := rfl
@[simp] theorem State.switchEntries_hPort (s : State) (c : Nat → Entry → Bool) (b : Bool) : (s.switchEntries c b).hPort = s.hPort := rfl
@[simp] theorem State.switchEntries_fPort (s : State) (c : Nat → Entry → Bool) (b : Bool) : (s.switchEntries c b).fPort = s.fPort := rfl
@[simp] theorem State.switchEntries_inbound (s : State) (c : Nat → Entry → Bool) (b : Bool) : (s.switchEntries c b).inbound = s.inbound := rfl
@[simp] theorem State.switchEntries_map (s : State) (c : Nat → Entry → Bool) (b : Bool) : (s.switchEntries c b).map = s.map := rfl
@[simp] theorem State.switchEntries_staleDue (s : State) (c : Nat → Entry → Bool) (b : Bool) : (s.switchEntries c b).staleDue = s.staleDue := rfl
@[simp] theorem State.switchEntries_elapsed (s : State) (c : Nat → Entry → Bool) (b : Bool) : (s.switchEntries c b).elapsed = s.elapsed := rfl
@[simp] theorem State.switchEntries_commit (s : State) (c : Nat → Entry → Bool) (b : Bool) : (s.switchEntries c b).commit = s.commit := rfl
@[simp] theorem State.switchEntries_report (s : State) (c : Nat → Entry → Bool) (b : Bool) : (s.switchEntries c b).report = s.report := rfl
@[simp] theorem State.switchEntries_groups (s : State) (c : Nat → Entry → Bool) (b : Bool) : (s.switchEntries c b).groups = s.groups := rfl
@[simp] theorem State.switchEntries_promotion (s : State) (c : Nat → Entry → Bool) (b : Bool) : (s.switchEntries c b).promotion = s.promotion := rfl
@[simp] theorem State.switchEntries_agent (s : State) (c : Nat → Entry → Bool) (b : Bool) : (s.switchEntries c b).agent = s.agent := rfl
@[simp] theorem State.switchEntries_pending (s : State) (c : Nat → Entry → Bool) (b : Bool) : (s.switchEntries c b).pending = s.pending := rfl

@[simp] theorem State.switchUnit_power (s : State) (e : Nat) (b : Bool) : (s.switchUnit e b).power = s.power := rfl
@[simp] theorem State.switchUnit_rstn (s : State) (e : Nat) (b : Bool) : (s.switchUnit e b).rstn = s.rstn := rfl
@[simp] theorem State.switchUnit_hPort (s : State) (e : Nat) (b : Bool) : (s.switchUnit e b).hPort = s.hPort := rfl
@[simp] theorem State.switchUnit_fPort (s : State) (e : Nat) (b : Bool) : (s.switchUnit e b).fPort = s.fPort := rfl
@[simp] theorem State.switchUnit_inbound (s : State) (e : Nat) (b : Bool) : (s.switchUnit e b).inbound = s.inbound := rfl
@[simp] theorem State.switchUnit_map (s : State) (e : Nat) (b : Bool) : (s.switchUnit e b).map = s.map := rfl
@[simp] theorem State.switchUnit_staleDue (s : State) (e : Nat) (b : Bool) : (s.switchUnit e b).staleDue = s.staleDue := rfl
@[simp] theorem State.switchUnit_elapsed (s : State) (e : Nat) (b : Bool) : (s.switchUnit e b).elapsed = s.elapsed := rfl
@[simp] theorem State.switchUnit_commit (s : State) (e : Nat) (b : Bool) : (s.switchUnit e b).commit = s.commit := rfl
@[simp] theorem State.switchUnit_report (s : State) (e : Nat) (b : Bool) : (s.switchUnit e b).report = s.report := rfl
@[simp] theorem State.switchUnit_groups (s : State) (e : Nat) (b : Bool) : (s.switchUnit e b).groups = s.groups := rfl
@[simp] theorem State.switchUnit_promotion (s : State) (e : Nat) (b : Bool) : (s.switchUnit e b).promotion = s.promotion := rfl
@[simp] theorem State.switchUnit_agent (s : State) (e : Nat) (b : Bool) : (s.switchUnit e b).agent = s.agent := rfl
@[simp] theorem State.switchUnit_pending (s : State) (e : Nat) (b : Bool) : (s.switchUnit e b).pending = s.pending := rfl

@[simp] theorem State.forceWaiting_power (s : State) : s.forceWaiting.power = s.power := rfl
@[simp] theorem State.forceWaiting_rstn (s : State) : s.forceWaiting.rstn = s.rstn := rfl
@[simp] theorem State.forceWaiting_hPort (s : State) : s.forceWaiting.hPort = s.hPort := rfl
@[simp] theorem State.forceWaiting_fPort (s : State) : s.forceWaiting.fPort = s.fPort := rfl
@[simp] theorem State.forceWaiting_inbound (s : State) : s.forceWaiting.inbound = s.inbound := rfl
@[simp] theorem State.forceWaiting_map (s : State) : s.forceWaiting.map = s.map := rfl
@[simp] theorem State.forceWaiting_staleDue (s : State) : s.forceWaiting.staleDue = s.staleDue := rfl
@[simp] theorem State.forceWaiting_elapsed (s : State) : s.forceWaiting.elapsed = s.elapsed := rfl
@[simp] theorem State.forceWaiting_report (s : State) : s.forceWaiting.report = s.report := rfl
@[simp] theorem State.forceWaiting_groups (s : State) : s.forceWaiting.groups = s.groups := rfl
@[simp] theorem State.forceWaiting_promotion (s : State) : s.forceWaiting.promotion = s.promotion := rfl
@[simp] theorem State.forceWaiting_agent (s : State) : s.forceWaiting.agent = s.agent := rfl
@[simp] theorem State.forceWaiting_pending (s : State) : s.forceWaiting.pending = s.pending := rfl

@[simp] theorem State.handOver_power (s : State) : s.handOver.power = s.power := rfl
@[simp] theorem State.handOver_rstn (s : State) : s.handOver.rstn = s.rstn := rfl
@[simp] theorem State.handOver_hPort (s : State) : s.handOver.hPort = s.hPort := rfl
@[simp] theorem State.handOver_fPort (s : State) : s.handOver.fPort = s.fPort := rfl
@[simp] theorem State.handOver_inbound (s : State) : s.handOver.inbound = s.inbound := rfl
@[simp] theorem State.handOver_map (s : State) : s.handOver.map = s.map := rfl
@[simp] theorem State.handOver_table (s : State) : s.handOver.table = s.table := rfl
@[simp] theorem State.handOver_staleDue (s : State) : s.handOver.staleDue = s.staleDue := rfl
@[simp] theorem State.handOver_elapsed (s : State) : s.handOver.elapsed = s.elapsed := rfl
@[simp] theorem State.handOver_commit (s : State) : s.handOver.commit = s.commit := rfl
@[simp] theorem State.handOver_report (s : State) : s.handOver.report = s.report := rfl
@[simp] theorem State.handOver_promotion (s : State) : s.handOver.promotion = s.promotion := rfl
@[simp] theorem State.handOver_agent (s : State) : s.handOver.agent = s.agent := rfl
@[simp] theorem State.handOver_pending (s : State) : s.handOver.pending = s.pending := rfl

@[simp] theorem State.tally_power (s : State) (ev : Event) : (s.tally ev).power = s.power := by unfold State.tally; split <;> rfl
@[simp] theorem State.tally_rstn (s : State) (ev : Event) : (s.tally ev).rstn = s.rstn := by unfold State.tally; split <;> rfl
@[simp] theorem State.tally_hPort (s : State) (ev : Event) : (s.tally ev).hPort = s.hPort := by unfold State.tally; split <;> rfl
@[simp] theorem State.tally_fPort (s : State) (ev : Event) : (s.tally ev).fPort = s.fPort := by unfold State.tally; split <;> rfl
@[simp] theorem State.tally_inbound (s : State) (ev : Event) : (s.tally ev).inbound = s.inbound := by unfold State.tally; split <;> rfl
@[simp] theorem State.tally_map (s : State) (ev : Event) : (s.tally ev).map = s.map := by unfold State.tally; split <;> rfl
@[simp] theorem State.tally_staleDue (s : State) (ev : Event) : (s.tally ev).staleDue = s.staleDue := by unfold State.tally; split <;> rfl
@[simp] theorem State.tally_elapsed (s : State) (ev : Event) : (s.tally ev).elapsed = s.elapsed := by unfold State.tally; split <;> rfl
@[simp] theorem State.tally_commit (s : State) (ev : Event) : (s.tally ev).commit = s.commit := by unfold State.tally; split <;> rfl
@[simp] theorem State.tally_report (s : State) (ev : Event) : (s.tally ev).report = s.report := by unfold State.tally; split <;> rfl
@[simp] theorem State.tally_groups (s : State) (ev : Event) : (s.tally ev).groups = s.groups := by unfold State.tally; split <;> rfl
@[simp] theorem State.tally_promotion (s : State) (ev : Event) : (s.tally ev).promotion = s.promotion := by unfold State.tally; split <;> rfl
@[simp] theorem State.tally_agent (s : State) (ev : Event) : (s.tally ev).agent = s.agent := by unfold State.tally; split <;> rfl
@[simp] theorem State.tally_pending (s : State) (ev : Event) : (s.tally ev).pending = s.pending := by unfold State.tally; split <;> rfl

@[simp] theorem State.raise_power (s : State) (ev : Event) : (s.raise ev).power = s.power := by unfold State.raise; split <;> simp
@[simp] theorem State.raise_rstn (s : State) (ev : Event) : (s.raise ev).rstn = s.rstn := by unfold State.raise; split <;> simp
@[simp] theorem State.raise_hPort (s : State) (ev : Event) : (s.raise ev).hPort = s.hPort := by unfold State.raise; split <;> simp
@[simp] theorem State.raise_fPort (s : State) (ev : Event) : (s.raise ev).fPort = s.fPort := by unfold State.raise; split <;> simp
@[simp] theorem State.raise_inbound (s : State) (ev : Event) : (s.raise ev).inbound = s.inbound := by unfold State.raise; split <;> simp
@[simp] theorem State.raise_map (s : State) (ev : Event) : (s.raise ev).map = s.map := by unfold State.raise; split <;> simp
@[simp] theorem State.raise_staleDue (s : State) (ev : Event) : (s.raise ev).staleDue = s.staleDue := by unfold State.raise; split <;> simp
@[simp] theorem State.raise_elapsed (s : State) (ev : Event) : (s.raise ev).elapsed = s.elapsed := by unfold State.raise; split <;> simp
@[simp] theorem State.raise_commit (s : State) (ev : Event) : (s.raise ev).commit = s.commit := by unfold State.raise; split <;> simp
@[simp] theorem State.raise_groups (s : State) (ev : Event) : (s.raise ev).groups = s.groups := by unfold State.raise; split <;> simp
@[simp] theorem State.raise_promotion (s : State) (ev : Event) : (s.raise ev).promotion = s.promotion := by unfold State.raise; split <;> simp
@[simp] theorem State.raise_agent (s : State) (ev : Event) : (s.raise ev).agent = s.agent := by unfold State.raise; split <;> simp
@[simp] theorem State.raise_pending (s : State) (ev : Event) : (s.raise ev).pending = s.pending := by unfold State.raise; split <;> simp

@[simp] theorem State.raiseChannel_power (s : State) (e : Nat) (k : EventKind) (v : Option Int) : (s.raiseChannel e k v).power = s.power := State.raise_power _ _
@[simp] theorem State.raiseChannel_rstn (s : State) (e : Nat) (k : EventKind) (v : Option Int) : (s.raiseChannel e k v).rstn = s.rstn := State.raise_rstn _ _
@[simp] theorem State.raiseChannel_hPort (s : State) (e : Nat) (k : EventKind) (v : Option Int) : (s.raiseChannel e k v).hPort = s.hPort := State.raise_hPort _ _
@[simp] theorem State.raiseChannel_fPort (s : State) (e : Nat) (k : EventKind) (v : Option Int) : (s.raiseChannel e k v).fPort = s.fPort := State.raise_fPort _ _
@[simp] theorem State.raiseChannel_inbound (s : State) (e : Nat) (k : EventKind) (v : Option Int) : (s.raiseChannel e k v).inbound = s.inbound := State.raise_inbound _ _
@[simp] theorem State.raiseChannel_map (s : State) (e : Nat) (k : EventKind) (v : Option Int) : (s.raiseChannel e k v).map = s.map := State.raise_map _ _
@[simp] theorem State.raiseChannel_staleDue (s : State) (e : Nat) (k : EventKind) (v : Option Int) : (s.raiseChannel e k v).staleDue = s.staleDue := State.raise_staleDue _ _
@[simp] theorem State.raiseChannel_elapsed (s : State) (e : Nat) (k : EventKind) (v : Option Int) : (s.raiseChannel e k v).elapsed = s.elapsed := State.raise_elapsed _ _
@[simp] theorem State.raiseChannel_commit (s : State) (e : Nat) (k : EventKind) (v : Option Int) : (s.raiseChannel e k v).commit = s.commit := State.raise_commit _ _
@[simp] theorem State.raiseChannel_groups (s : State) (e : Nat) (k : EventKind) (v : Option Int) : (s.raiseChannel e k v).groups = s.groups := State.raise_groups _ _
@[simp] theorem State.raiseChannel_promotion (s : State) (e : Nat) (k : EventKind) (v : Option Int) : (s.raiseChannel e k v).promotion = s.promotion := State.raise_promotion _ _
@[simp] theorem State.raiseChannel_agent (s : State) (e : Nat) (k : EventKind) (v : Option Int) : (s.raiseChannel e k v).agent = s.agent := State.raise_agent _ _
@[simp] theorem State.raiseChannel_pending (s : State) (e : Nat) (k : EventKind) (v : Option Int) : (s.raiseChannel e k v).pending = s.pending := State.raise_pending _ _

@[simp] theorem State.lose_power (s : State) (k : Nat) : (s.lose k).power = s.power := rfl
@[simp] theorem State.lose_rstn (s : State) (k : Nat) : (s.lose k).rstn = s.rstn := rfl
@[simp] theorem State.lose_hPort (s : State) (k : Nat) : (s.lose k).hPort = s.hPort := rfl
@[simp] theorem State.lose_fPort (s : State) (k : Nat) : (s.lose k).fPort = s.fPort := rfl
@[simp] theorem State.lose_inbound (s : State) (k : Nat) : (s.lose k).inbound = s.inbound := rfl
@[simp] theorem State.lose_map (s : State) (k : Nat) : (s.lose k).map = s.map := rfl
@[simp] theorem State.lose_table (s : State) (k : Nat) : (s.lose k).table = s.table := rfl
@[simp] theorem State.lose_staleDue (s : State) (k : Nat) : (s.lose k).staleDue = s.staleDue := rfl
@[simp] theorem State.lose_elapsed (s : State) (k : Nat) : (s.lose k).elapsed = s.elapsed := rfl
@[simp] theorem State.lose_commit (s : State) (k : Nat) : (s.lose k).commit = s.commit := rfl
@[simp] theorem State.lose_groups (s : State) (k : Nat) : (s.lose k).groups = s.groups := rfl
@[simp] theorem State.lose_promotion (s : State) (k : Nat) : (s.lose k).promotion = s.promotion := rfl
@[simp] theorem State.lose_agent (s : State) (k : Nat) : (s.lose k).agent = s.agent := rfl
@[simp] theorem State.lose_pending (s : State) (k : Nat) : (s.lose k).pending = s.pending := rfl

@[simp] theorem State.makeStale_power (s : State) (e : Nat) : (s.makeStale e).power = s.power := by unfold State.makeStale; split <;> simp
@[simp] theorem State.makeStale_rstn (s : State) (e : Nat) : (s.makeStale e).rstn = s.rstn := by unfold State.makeStale; split <;> simp
@[simp] theorem State.makeStale_hPort (s : State) (e : Nat) : (s.makeStale e).hPort = s.hPort := by unfold State.makeStale; split <;> simp
@[simp] theorem State.makeStale_fPort (s : State) (e : Nat) : (s.makeStale e).fPort = s.fPort := by unfold State.makeStale; split <;> simp
@[simp] theorem State.makeStale_inbound (s : State) (e : Nat) : (s.makeStale e).inbound = s.inbound := by unfold State.makeStale; split <;> simp
@[simp] theorem State.makeStale_map (s : State) (e : Nat) : (s.makeStale e).map = s.map := by unfold State.makeStale; split <;> simp
@[simp] theorem State.makeStale_staleDue (s : State) (e : Nat) : (s.makeStale e).staleDue = s.staleDue := by unfold State.makeStale; split <;> simp
@[simp] theorem State.makeStale_elapsed (s : State) (e : Nat) : (s.makeStale e).elapsed = s.elapsed := by unfold State.makeStale; split <;> simp
@[simp] theorem State.makeStale_commit (s : State) (e : Nat) : (s.makeStale e).commit = s.commit := by unfold State.makeStale; split <;> simp
@[simp] theorem State.makeStale_groups (s : State) (e : Nat) : (s.makeStale e).groups = s.groups := by unfold State.makeStale; split <;> simp
@[simp] theorem State.makeStale_promotion (s : State) (e : Nat) : (s.makeStale e).promotion = s.promotion := by unfold State.makeStale; split <;> simp
@[simp] theorem State.makeStale_agent (s : State) (e : Nat) : (s.makeStale e).agent = s.agent := by unfold State.makeStale; split <;> simp
@[simp] theorem State.makeStale_pending (s : State) (e : Nat) : (s.makeStale e).pending = s.pending := by unfold State.makeStale; split <;> simp

@[simp] theorem State.completeCommit_power (s : State) : s.completeCommit.power = s.power := State.raise_power _ _
@[simp] theorem State.completeCommit_rstn (s : State) : s.completeCommit.rstn = s.rstn := State.raise_rstn _ _
@[simp] theorem State.completeCommit_hPort (s : State) : s.completeCommit.hPort = s.hPort := State.raise_hPort _ _
@[simp] theorem State.completeCommit_fPort (s : State) : s.completeCommit.fPort = s.fPort := State.raise_fPort _ _
@[simp] theorem State.completeCommit_inbound (s : State) : s.completeCommit.inbound = s.inbound := State.raise_inbound _ _
@[simp] theorem State.completeCommit_map (s : State) : s.completeCommit.map = s.map := State.raise_map _ _
@[simp] theorem State.completeCommit_staleDue (s : State) : s.completeCommit.staleDue = s.staleDue := State.raise_staleDue _ _
@[simp] theorem State.completeCommit_elapsed (s : State) : s.completeCommit.elapsed = s.elapsed := State.raise_elapsed _ _
@[simp] theorem State.completeCommit_groups (s : State) : s.completeCommit.groups = s.groups := State.raise_groups _ _
@[simp] theorem State.completeCommit_promotion (s : State) : s.completeCommit.promotion = s.promotion := State.raise_promotion _ _
@[simp] theorem State.completeCommit_agent (s : State) : s.completeCommit.agent = s.agent := State.raise_agent _ _
@[simp] theorem State.completeCommit_pending (s : State) : s.completeCommit.pending = s.pending := State.raise_pending _ _

@[simp] theorem State.completeIfEmpty_power (s : State) : s.completeIfEmpty.power = s.power := by unfold State.completeIfEmpty; split <;> simp
@[simp] theorem State.completeIfEmpty_rstn (s : State) : s.completeIfEmpty.rstn = s.rstn := by unfold State.completeIfEmpty; split <;> simp
@[simp] theorem State.completeIfEmpty_hPort (s : State) : s.completeIfEmpty.hPort = s.hPort := by unfold State.completeIfEmpty; split <;> simp
@[simp] theorem State.completeIfEmpty_fPort (s : State) : s.completeIfEmpty.fPort = s.fPort := by unfold State.completeIfEmpty; split <;> simp
@[simp] theorem State.completeIfEmpty_inbound (s : State) : s.completeIfEmpty.inbound = s.inbound := by unfold State.completeIfEmpty; split <;> simp
@[simp] theorem State.completeIfEmpty_map (s : State) : s.completeIfEmpty.map = s.map := by unfold State.completeIfEmpty; split <;> simp
@[simp] theorem State.completeIfEmpty_staleDue (s : State) : s.completeIfEmpty.staleDue = s.staleDue := by unfold State.completeIfEmpty; split <;> simp
@[simp] theorem State.completeIfEmpty_elapsed (s : State) : s.completeIfEmpty.elapsed = s.elapsed := by unfold State.completeIfEmpty; split <;> simp
@[simp] theorem State.completeIfEmpty_groups (s : State) : s.completeIfEmpty.groups = s.groups := by unfold State.completeIfEmpty; split <;> simp
@[simp] theorem State.completeIfEmpty_promotion (s : State) : s.completeIfEmpty.promotion = s.promotion := by unfold State.completeIfEmpty; split <;> simp
@[simp] theorem State.completeIfEmpty_agent (s : State) : s.completeIfEmpty.agent = s.agent := by unfold State.completeIfEmpty; split <;> simp
@[simp] theorem State.completeIfEmpty_pending (s : State) : s.completeIfEmpty.pending = s.pending := by unfold State.completeIfEmpty; split <;> simp

@[simp] theorem State.withdrawPromotion_power (s : State) : s.withdrawPromotion.power = s.power := by unfold State.withdrawPromotion; split <;> rfl
@[simp] theorem State.withdrawPromotion_rstn (s : State) : s.withdrawPromotion.rstn = s.rstn := by unfold State.withdrawPromotion; split <;> rfl
@[simp] theorem State.withdrawPromotion_hPort (s : State) : s.withdrawPromotion.hPort = s.hPort := by unfold State.withdrawPromotion; split <;> rfl
@[simp] theorem State.withdrawPromotion_fPort (s : State) : s.withdrawPromotion.fPort = s.fPort := by unfold State.withdrawPromotion; split <;> rfl
@[simp] theorem State.withdrawPromotion_inbound (s : State) : s.withdrawPromotion.inbound = s.inbound := by unfold State.withdrawPromotion; split <;> rfl
@[simp] theorem State.withdrawPromotion_map (s : State) : s.withdrawPromotion.map = s.map := by unfold State.withdrawPromotion; split <;> rfl
@[simp] theorem State.withdrawPromotion_table (s : State) : s.withdrawPromotion.table = s.table := by unfold State.withdrawPromotion; split <;> rfl
@[simp] theorem State.withdrawPromotion_staleDue (s : State) : s.withdrawPromotion.staleDue = s.staleDue := by unfold State.withdrawPromotion; split <;> rfl
@[simp] theorem State.withdrawPromotion_elapsed (s : State) : s.withdrawPromotion.elapsed = s.elapsed := by unfold State.withdrawPromotion; split <;> rfl
@[simp] theorem State.withdrawPromotion_commit (s : State) : s.withdrawPromotion.commit = s.commit := by unfold State.withdrawPromotion; split <;> rfl
@[simp] theorem State.withdrawPromotion_report (s : State) : s.withdrawPromotion.report = s.report := by unfold State.withdrawPromotion; split <;> rfl
@[simp] theorem State.withdrawPromotion_groups (s : State) : s.withdrawPromotion.groups = s.groups := by unfold State.withdrawPromotion; split <;> rfl
@[simp] theorem State.withdrawPromotion_agent (s : State) : s.withdrawPromotion.agent = s.agent := by unfold State.withdrawPromotion; split <;> rfl
@[simp] theorem State.withdrawPromotion_pending (s : State) : s.withdrawPromotion.pending = s.pending := by unfold State.withdrawPromotion; split <;> rfl

@[simp] theorem State.emptyInbound_power (s : State) : s.emptyInbound.power = s.power := rfl
@[simp] theorem State.emptyInbound_rstn (s : State) : s.emptyInbound.rstn = s.rstn := rfl
@[simp] theorem State.emptyInbound_map (s : State) : s.emptyInbound.map = s.map := rfl
@[simp] theorem State.emptyInbound_table (s : State) : s.emptyInbound.table = s.table := rfl
@[simp] theorem State.emptyInbound_staleDue (s : State) : s.emptyInbound.staleDue = s.staleDue := rfl
@[simp] theorem State.emptyInbound_elapsed (s : State) : s.emptyInbound.elapsed = s.elapsed := rfl
@[simp] theorem State.emptyInbound_commit (s : State) : s.emptyInbound.commit = s.commit := rfl
@[simp] theorem State.emptyInbound_report (s : State) : s.emptyInbound.report = s.report := rfl
@[simp] theorem State.emptyInbound_groups (s : State) : s.emptyInbound.groups = s.groups := rfl
@[simp] theorem State.emptyInbound_promotion (s : State) : s.emptyInbound.promotion = s.promotion := rfl
@[simp] theorem State.emptyInbound_agent (s : State) : s.emptyInbound.agent = s.agent := rfl
@[simp] theorem State.emptyInbound_pending (s : State) : s.emptyInbound.pending = s.pending := rfl

@[simp] theorem State.emptyReports_power (s : State) : s.emptyReports.power = s.power := rfl
@[simp] theorem State.emptyReports_rstn (s : State) : s.emptyReports.rstn = s.rstn := rfl
@[simp] theorem State.emptyReports_hPort (s : State) : s.emptyReports.hPort = s.hPort := rfl
@[simp] theorem State.emptyReports_fPort (s : State) : s.emptyReports.fPort = s.fPort := rfl
@[simp] theorem State.emptyReports_inbound (s : State) : s.emptyReports.inbound = s.inbound := rfl
@[simp] theorem State.emptyReports_map (s : State) : s.emptyReports.map = s.map := rfl
@[simp] theorem State.emptyReports_table (s : State) : s.emptyReports.table = s.table := rfl
@[simp] theorem State.emptyReports_staleDue (s : State) : s.emptyReports.staleDue = s.staleDue := rfl
@[simp] theorem State.emptyReports_elapsed (s : State) : s.emptyReports.elapsed = s.elapsed := rfl
@[simp] theorem State.emptyReports_commit (s : State) : s.emptyReports.commit = s.commit := rfl
@[simp] theorem State.emptyReports_groups (s : State) : s.emptyReports.groups = s.groups := rfl
@[simp] theorem State.emptyReports_promotion (s : State) : s.emptyReports.promotion = s.promotion := rfl
@[simp] theorem State.emptyReports_agent (s : State) : s.emptyReports.agent = s.agent := rfl
@[simp] theorem State.emptyReports_pending (s : State) : s.emptyReports.pending = s.pending := rfl

@[simp] theorem State.emptyAgent_power (s : State) : s.emptyAgent.power = s.power := rfl
@[simp] theorem State.emptyAgent_rstn (s : State) : s.emptyAgent.rstn = s.rstn := rfl
@[simp] theorem State.emptyAgent_hPort (s : State) : s.emptyAgent.hPort = s.hPort := rfl
@[simp] theorem State.emptyAgent_fPort (s : State) : s.emptyAgent.fPort = s.fPort := rfl
@[simp] theorem State.emptyAgent_inbound (s : State) : s.emptyAgent.inbound = s.inbound := rfl
@[simp] theorem State.emptyAgent_map (s : State) : s.emptyAgent.map = s.map := rfl
@[simp] theorem State.emptyAgent_table (s : State) : s.emptyAgent.table = s.table := rfl
@[simp] theorem State.emptyAgent_staleDue (s : State) : s.emptyAgent.staleDue = s.staleDue := rfl
@[simp] theorem State.emptyAgent_elapsed (s : State) : s.emptyAgent.elapsed = s.elapsed := rfl
@[simp] theorem State.emptyAgent_commit (s : State) : s.emptyAgent.commit = s.commit := rfl
@[simp] theorem State.emptyAgent_report (s : State) : s.emptyAgent.report = s.report := rfl
@[simp] theorem State.emptyAgent_groups (s : State) : s.emptyAgent.groups = s.groups := rfl
@[simp] theorem State.emptyAgent_pending (s : State) : s.emptyAgent.pending = s.pending := rfl

@[simp] theorem State.clearRuns_power (s : State) : s.clearRuns.power = s.power := rfl
@[simp] theorem State.clearRuns_rstn (s : State) : s.clearRuns.rstn = s.rstn := rfl
@[simp] theorem State.clearRuns_hPort (s : State) : s.clearRuns.hPort = s.hPort := rfl
@[simp] theorem State.clearRuns_fPort (s : State) : s.clearRuns.fPort = s.fPort := rfl
@[simp] theorem State.clearRuns_inbound (s : State) : s.clearRuns.inbound = s.inbound := rfl
@[simp] theorem State.clearRuns_map (s : State) : s.clearRuns.map = s.map := rfl
@[simp] theorem State.clearRuns_staleDue (s : State) : s.clearRuns.staleDue = s.staleDue := rfl
@[simp] theorem State.clearRuns_elapsed (s : State) : s.clearRuns.elapsed = s.elapsed := rfl
@[simp] theorem State.clearRuns_commit (s : State) : s.clearRuns.commit = s.commit := rfl
@[simp] theorem State.clearRuns_report (s : State) : s.clearRuns.report = s.report := rfl
@[simp] theorem State.clearRuns_groups (s : State) : s.clearRuns.groups = s.groups := rfl
@[simp] theorem State.clearRuns_promotion (s : State) : s.clearRuns.promotion = s.promotion := rfl
@[simp] theorem State.clearRuns_agent (s : State) : s.clearRuns.agent = s.agent := rfl
@[simp] theorem State.clearRuns_pending (s : State) : s.clearRuns.pending = s.pending := rfl

@[simp] theorem State.clearGroups_power (s : State) : s.clearGroups.power = s.power := rfl
@[simp] theorem State.clearGroups_rstn (s : State) : s.clearGroups.rstn = s.rstn := rfl
@[simp] theorem State.clearGroups_hPort (s : State) : s.clearGroups.hPort = s.hPort := rfl
@[simp] theorem State.clearGroups_fPort (s : State) : s.clearGroups.fPort = s.fPort := rfl
@[simp] theorem State.clearGroups_inbound (s : State) : s.clearGroups.inbound = s.inbound := rfl
@[simp] theorem State.clearGroups_map (s : State) : s.clearGroups.map = s.map := rfl
@[simp] theorem State.clearGroups_table (s : State) : s.clearGroups.table = s.table := rfl
@[simp] theorem State.clearGroups_staleDue (s : State) : s.clearGroups.staleDue = s.staleDue := rfl
@[simp] theorem State.clearGroups_elapsed (s : State) : s.clearGroups.elapsed = s.elapsed := rfl
@[simp] theorem State.clearGroups_commit (s : State) : s.clearGroups.commit = s.commit := rfl
@[simp] theorem State.clearGroups_report (s : State) : s.clearGroups.report = s.report := rfl
@[simp] theorem State.clearGroups_promotion (s : State) : s.clearGroups.promotion = s.promotion := rfl
@[simp] theorem State.clearGroups_agent (s : State) : s.clearGroups.agent = s.agent := rfl
@[simp] theorem State.clearGroups_pending (s : State) : s.clearGroups.pending = s.pending := rfl

@[simp] theorem State.silencePorts_power (s : State) : s.silencePorts.power = s.power := rfl
@[simp] theorem State.silencePorts_rstn (s : State) : s.silencePorts.rstn = s.rstn := rfl
@[simp] theorem State.silencePorts_inbound (s : State) : s.silencePorts.inbound = s.inbound := rfl
@[simp] theorem State.silencePorts_map (s : State) : s.silencePorts.map = s.map := rfl
@[simp] theorem State.silencePorts_table (s : State) : s.silencePorts.table = s.table := rfl
@[simp] theorem State.silencePorts_staleDue (s : State) : s.silencePorts.staleDue = s.staleDue := rfl
@[simp] theorem State.silencePorts_elapsed (s : State) : s.silencePorts.elapsed = s.elapsed := rfl
@[simp] theorem State.silencePorts_commit (s : State) : s.silencePorts.commit = s.commit := rfl
@[simp] theorem State.silencePorts_report (s : State) : s.silencePorts.report = s.report := rfl
@[simp] theorem State.silencePorts_groups (s : State) : s.silencePorts.groups = s.groups := rfl
@[simp] theorem State.silencePorts_promotion (s : State) : s.silencePorts.promotion = s.promotion := rfl
@[simp] theorem State.silencePorts_agent (s : State) : s.silencePorts.agent = s.agent := rfl
@[simp] theorem State.silencePorts_pending (s : State) : s.silencePorts.pending = s.pending := rfl

@[simp] theorem State.startPorts_power (s : State) : s.startPorts.power = s.power := rfl
@[simp] theorem State.startPorts_rstn (s : State) : s.startPorts.rstn = s.rstn := rfl
@[simp] theorem State.startPorts_inbound (s : State) : s.startPorts.inbound = s.inbound := rfl
@[simp] theorem State.startPorts_map (s : State) : s.startPorts.map = s.map := rfl
@[simp] theorem State.startPorts_table (s : State) : s.startPorts.table = s.table := rfl
@[simp] theorem State.startPorts_staleDue (s : State) : s.startPorts.staleDue = s.staleDue := rfl
@[simp] theorem State.startPorts_commit (s : State) : s.startPorts.commit = s.commit := rfl
@[simp] theorem State.startPorts_report (s : State) : s.startPorts.report = s.report := rfl
@[simp] theorem State.startPorts_groups (s : State) : s.startPorts.groups = s.groups := rfl
@[simp] theorem State.startPorts_promotion (s : State) : s.startPorts.promotion = s.promotion := rfl
@[simp] theorem State.startPorts_agent (s : State) : s.startPorts.agent = s.agent := rfl
@[simp] theorem State.startPorts_pending (s : State) : s.startPorts.pending = s.pending := rfl

@[simp] theorem State.takeAddress_power (s : State) (a tag : Byte) : (s.takeAddress a tag).power = s.power := rfl
@[simp] theorem State.takeAddress_rstn (s : State) (a tag : Byte) : (s.takeAddress a tag).rstn = s.rstn := rfl
@[simp] theorem State.takeAddress_hPort (s : State) (a tag : Byte) : (s.takeAddress a tag).hPort = s.hPort := rfl
@[simp] theorem State.takeAddress_fPort (s : State) (a tag : Byte) : (s.takeAddress a tag).fPort = s.fPort := rfl
@[simp] theorem State.takeAddress_inbound (s : State) (a tag : Byte) : (s.takeAddress a tag).inbound = s.inbound := rfl
@[simp] theorem State.takeAddress_map (s : State) (a tag : Byte) : (s.takeAddress a tag).map = s.map := rfl
@[simp] theorem State.takeAddress_table (s : State) (a tag : Byte) : (s.takeAddress a tag).table = s.table := rfl
@[simp] theorem State.takeAddress_staleDue (s : State) (a tag : Byte) : (s.takeAddress a tag).staleDue = s.staleDue := rfl
@[simp] theorem State.takeAddress_elapsed (s : State) (a tag : Byte) : (s.takeAddress a tag).elapsed = s.elapsed := rfl
@[simp] theorem State.takeAddress_commit (s : State) (a tag : Byte) : (s.takeAddress a tag).commit = s.commit := rfl
@[simp] theorem State.takeAddress_report (s : State) (a tag : Byte) : (s.takeAddress a tag).report = s.report := rfl
@[simp] theorem State.takeAddress_groups (s : State) (a tag : Byte) : (s.takeAddress a tag).groups = s.groups := rfl
@[simp] theorem State.takeAddress_promotion (s : State) (a tag : Byte) : (s.takeAddress a tag).promotion = s.promotion := rfl
@[simp] theorem State.takeAddress_pending (s : State) (a tag : Byte) : (s.takeAddress a tag).pending = s.pending := rfl

@[simp] theorem State.storeSettings_power (s : State) (x : Settings) : (s.storeSettings x).power = s.power := rfl
@[simp] theorem State.storeSettings_rstn (s : State) (x : Settings) : (s.storeSettings x).rstn = s.rstn := rfl
@[simp] theorem State.storeSettings_hPort (s : State) (x : Settings) : (s.storeSettings x).hPort = s.hPort := rfl
@[simp] theorem State.storeSettings_fPort (s : State) (x : Settings) : (s.storeSettings x).fPort = s.fPort := rfl
@[simp] theorem State.storeSettings_inbound (s : State) (x : Settings) : (s.storeSettings x).inbound = s.inbound := rfl
@[simp] theorem State.storeSettings_map (s : State) (x : Settings) : (s.storeSettings x).map = s.map := rfl
@[simp] theorem State.storeSettings_table (s : State) (x : Settings) : (s.storeSettings x).table = s.table := rfl
@[simp] theorem State.storeSettings_staleDue (s : State) (x : Settings) : (s.storeSettings x).staleDue = s.staleDue := rfl
@[simp] theorem State.storeSettings_commit (s : State) (x : Settings) : (s.storeSettings x).commit = s.commit := rfl
@[simp] theorem State.storeSettings_report (s : State) (x : Settings) : (s.storeSettings x).report = s.report := rfl
@[simp] theorem State.storeSettings_promotion (s : State) (x : Settings) : (s.storeSettings x).promotion = s.promotion := rfl
@[simp] theorem State.storeSettings_pending (s : State) (x : Settings) : (s.storeSettings x).pending = s.pending := rfl

@[simp] theorem State.deadlineStep_power (s : State) : s.deadlineStep.power = s.power := by unfold State.deadlineStep; split <;> rfl
@[simp] theorem State.deadlineStep_rstn (s : State) : s.deadlineStep.rstn = s.rstn := by unfold State.deadlineStep; split <;> rfl
@[simp] theorem State.deadlineStep_hPort (s : State) : s.deadlineStep.hPort = s.hPort := by unfold State.deadlineStep; split <;> rfl
@[simp] theorem State.deadlineStep_fPort (s : State) : s.deadlineStep.fPort = s.fPort := by unfold State.deadlineStep; split <;> rfl
@[simp] theorem State.deadlineStep_inbound (s : State) : s.deadlineStep.inbound = s.inbound := by unfold State.deadlineStep; split <;> rfl
@[simp] theorem State.deadlineStep_map (s : State) : s.deadlineStep.map = s.map := by unfold State.deadlineStep; split <;> rfl
@[simp] theorem State.deadlineStep_table (s : State) : s.deadlineStep.table = s.table := by unfold State.deadlineStep; split <;> rfl
@[simp] theorem State.deadlineStep_staleDue (s : State) : s.deadlineStep.staleDue = s.staleDue := by unfold State.deadlineStep; split <;> rfl
@[simp] theorem State.deadlineStep_elapsed (s : State) : s.deadlineStep.elapsed = s.elapsed := by unfold State.deadlineStep; split <;> rfl
@[simp] theorem State.deadlineStep_report (s : State) : s.deadlineStep.report = s.report := by unfold State.deadlineStep; split <;> rfl
@[simp] theorem State.deadlineStep_groups (s : State) : s.deadlineStep.groups = s.groups := by unfold State.deadlineStep; split <;> rfl
@[simp] theorem State.deadlineStep_promotion (s : State) : s.deadlineStep.promotion = s.promotion := by unfold State.deadlineStep; split <;> rfl
@[simp] theorem State.deadlineStep_agent (s : State) : s.deadlineStep.agent = s.agent := by unfold State.deadlineStep; split <;> rfl
@[simp] theorem State.deadlineStep_pending (s : State) : s.deadlineStep.pending = s.pending := by unfold State.deadlineStep; split <;> rfl

@[simp] theorem State.retryStep_power (s : State) : s.retryStep.power = s.power := rfl
@[simp] theorem State.retryStep_rstn (s : State) : s.retryStep.rstn = s.rstn := rfl
@[simp] theorem State.retryStep_hPort (s : State) : s.retryStep.hPort = s.hPort := rfl
@[simp] theorem State.retryStep_fPort (s : State) : s.retryStep.fPort = s.fPort := rfl
@[simp] theorem State.retryStep_inbound (s : State) : s.retryStep.inbound = s.inbound := rfl
@[simp] theorem State.retryStep_map (s : State) : s.retryStep.map = s.map := rfl
@[simp] theorem State.retryStep_table (s : State) : s.retryStep.table = s.table := rfl
@[simp] theorem State.retryStep_staleDue (s : State) : s.retryStep.staleDue = s.staleDue := rfl
@[simp] theorem State.retryStep_elapsed (s : State) : s.retryStep.elapsed = s.elapsed := rfl
@[simp] theorem State.retryStep_commit (s : State) : s.retryStep.commit = s.commit := rfl
@[simp] theorem State.retryStep_groups (s : State) : s.retryStep.groups = s.groups := rfl
@[simp] theorem State.retryStep_promotion (s : State) : s.retryStep.promotion = s.promotion := rfl
@[simp] theorem State.retryStep_agent (s : State) : s.retryStep.agent = s.agent := rfl
@[simp] theorem State.retryStep_pending (s : State) : s.retryStep.pending = s.pending := rfl

@[simp] theorem State.ageStep_power (s : State) : s.ageStep.power = s.power := rfl
@[simp] theorem State.ageStep_rstn (s : State) : s.ageStep.rstn = s.rstn := rfl
@[simp] theorem State.ageStep_hPort (s : State) : s.ageStep.hPort = s.hPort := rfl
@[simp] theorem State.ageStep_fPort (s : State) : s.ageStep.fPort = s.fPort := rfl
@[simp] theorem State.ageStep_inbound (s : State) : s.ageStep.inbound = s.inbound := rfl
@[simp] theorem State.ageStep_map (s : State) : s.ageStep.map = s.map := rfl
@[simp] theorem State.ageStep_elapsed (s : State) : s.ageStep.elapsed = s.elapsed := rfl
@[simp] theorem State.ageStep_commit (s : State) : s.ageStep.commit = s.commit := rfl
@[simp] theorem State.ageStep_report (s : State) : s.ageStep.report = s.report := rfl
@[simp] theorem State.ageStep_groups (s : State) : s.ageStep.groups = s.groups := rfl
@[simp] theorem State.ageStep_promotion (s : State) : s.ageStep.promotion = s.promotion := rfl
@[simp] theorem State.ageStep_agent (s : State) : s.ageStep.agent = s.agent := rfl
@[simp] theorem State.ageStep_pending (s : State) : s.ageStep.pending = s.pending := rfl

end Sys2Proof.Machine
end

