-- ==== Sys2Proof/Laws/Ops.lean ====
section
/-! SUPPORT. What the shared operations do, said once each, so that no later proof unfolds them. -/

namespace Sys2Proof.Machine

open Sys2Proof

/-! ## The table -/

@[simp] theorem mapEntries_length (f : Nat → Entry → Entry) (n : Nat) (l : List Entry) :
    (mapEntries f n l).length = l.length := by
  induction l generalizing n with
  | nil => rfl
  | cons x rest ih => simp [mapEntries, ih]

theorem mapEntries_getElem? (f : Nat → Entry → Entry) (n : Nat) (l : List Entry) (e : Nat) :
    (mapEntries f n l)[e]? = l[e]?.map (f (n + e)) := by
  induction l generalizing n e with
  | nil => rfl
  | cons x rest ih =>
    cases e with
    | zero => rfl
    | succ e => simp only [mapEntries, List.getElem?_cons_succ, ih]; rw [Nat.add_assoc, Nat.add_comm 1 e]

theorem State.entry_eq_getElem? (s : State) (e : Nat) : s.entry e = (s.table[e]?).getD Entry.initial := by
  simp [State.entry, List.getD_eq_getElem?_getD]

/-- An entry the table lacks reads as the initial entry. -/
theorem State.entry_of_le (s : State) (e : Nat) (h : s.table.length ≤ e) : s.entry e = Entry.initial := by
  simp [State.entry_eq_getElem?, List.getElem?_eq_none h]

theorem State.getElem?_table (s : State) (e : Nat) (h : e < s.table.length) : s.table[e]? = some (s.entry e) := by
  simp [State.entry_eq_getElem?, List.getElem?_eq_getElem h]

@[simp] theorem State.modifyRun_length (s : State) (e : Nat) (f : RunState → RunState) :
    (s.modifyRun e f).table.length = s.table.length := by
  simp [State.modifyRun]

/-- A change to one run state shows in that entry. -/
theorem State.modifyRun_entry_self (s : State) (e : Nat) (f : RunState → RunState) (h : e < s.table.length) :
    (s.modifyRun e f).entry e = { s.entry e with run := f (s.entry e).run } := by
  simp [State.modifyRun, State.entry_eq_getElem?, List.getElem?_eq_getElem h]

/-- A change to one run state shows in no other entry. -/
theorem State.modifyRun_entry_other (s : State) (e i : Nat) (f : RunState → RunState) (h : i ≠ e) :
    (s.modifyRun e f).entry i = s.entry i := by
  simp [State.modifyRun, State.entry_eq_getElem?, Ne.symm h]

/-- No change to a run state touches a record. -/
theorem State.modifyRun_slots (s : State) (e i : Nat) (f : RunState → RunState) :
    ((s.modifyRun e f).entry i).live = (s.entry i).live ∧ ((s.modifyRun e f).entry i).staging = (s.entry i).staging := by
  by_cases h : i = e
  · subst h
    by_cases hl : i < s.table.length
    · simp [State.modifyRun_entry_self s i f hl]
    · have hl : s.table.length ≤ i := Nat.le_of_not_lt hl
      rw [State.entry_of_le _ _ (by simpa using hl), State.entry_of_le _ _ hl]
      exact ⟨rfl, rfl⟩
  · simp [State.modifyRun_entry_other s e i f h]

/-! ## The schedule -/

/-- Within the period the count of an arrival stays within it (R32, R74). -/
theorem ConfigRecord.advance_lt (r : ConfigRecord) (p : Nat) (h : p < r.period) : r.advance p < r.period := by
  unfold ConfigRecord.advance; split <;> omega

/-! ## The switch -/

@[simp] theorem State.switchEntries_length (s : State) (c : Nat → Entry → Bool) (b : Bool) :
    (s.switchEntries c b).table.length = s.table.length := by
  simp [State.switchEntries]

/-- A switch of chosen units: an entry chosen is switched, every other keeps all it holds. -/
theorem State.switchEntries_entry (s : State) (c : Nat → Entry → Bool) (b : Bool) (e : Nat) (h : e < s.table.length) :
    (s.switchEntries c b).entry e = if c e (s.entry e) then s.switchedEntry b e (s.entry e) else s.entry e := by
  simp [State.switchEntries, State.entry_eq_getElem?, mapEntries_getElem?, List.getElem?_eq_getElem h]

theorem State.switchedEntry_live (s : State) (b : Bool) (e : Nat) (x : Entry) : (s.switchedEntry b e x).live = x.staging :=
  rfl
theorem State.switchedEntry_staging (s : State) (b : Bool) (e : Nat) (x : Entry) :
    (s.switchedEntry b e x).staging = x.staging := rfl

/-- What a switch makes of an entry (R101, R102, R37, Table 45). -/
theorem State.switchedEntry_switchedTo (s : State) (b : Bool) (e : Nat) (x : Entry) :
    s.switchedTo s.commit.generation b e x (s.switchedEntry b e x) := by
  unfold State.switchedTo State.switchedEntry
  dsimp only
  rcases x with ⟨live, staging, run⟩
  rcases run with ⟨c, k, p, age, lv, g, w, sc, ta, lk⟩
  cases hpb : s.pairedUpper e <;> cases hpa : (e % 2 == 1 && (s.entry (e - 1)).staging.pair) <;>
    cases hen : staging.enable <;>
    first
    | (simp_all [RunState.toIdle]; done)
    | cases c <;> cases b <;> simp_all [Condition.reduced]

/-- A switched entry holds no transient condition. -/
theorem State.switchedEntry_settled (s : State) (b : Bool) (e : Nat) (x : Entry) :
    (s.switchedEntry b e x).run.condition ∉ [Condition.rising, .falling, .highClearing, .lowClearing] := by
  have hc : x.run.condition.reduced ∉ [Condition.rising, .falling, .highClearing, .lowClearing] := by
    cases x.run.condition <;> simp [Condition.reduced]
  unfold State.switchedEntry
  dsimp only
  split <;> simp_all [RunState.toIdle]

/-- The table as a list of its entries. -/
theorem State.table_eq_map (s : State) : s.table = (List.range s.table.length).map s.entry := by
  apply List.ext_getElem?
  intro i
  by_cases hi : i < s.table.length
  · rw [s.getElem?_table i hi]; simp [hi]
  · rw [List.getElem?_eq_none (by omega), List.getElem?_eq_none (by simp; omega)]

/-- The waiting count counts the entries whose waiting flag is yes (R104). -/
theorem State.waitingCount_eq (s : State) :
    s.waitingCount = (List.range s.table.length).countP fun e => (s.entry e).run.waiting := by
  unfold State.waitingCount
  conv_lhs => rw [s.table_eq_map]
  rw [List.countP_map]
  rfl

/-- States with one table have the same entries. -/
theorem State.entry_congr (s t : State) (e : Nat) (h : t.table = s.table) : t.entry e = s.entry e := by
  unfold State.entry; rw [h]

/-- Forcing: a waiting entry is switched out of turn, every other keeps all it holds (R106). -/
theorem State.forceWaiting_entry (s : State) (e : Nat) (h : e < s.table.length) :
    s.forceWaiting.entry e
      = if (s.entry e).run.waiting then s.switchedEntry true e (s.entry e) else s.entry e := by
  rw [← s.switchEntries_entry (fun _ x => x.run.waiting) true e h]
  rfl

/-! ## The work of a tick -/

/-- Where a tick has left nothing to do, finishing it changes nothing. -/
theorem State.finishTick_of_tickDone (s : State) (h : s.tickDone = true) : s.finishTick = s := by
  unfold State.tickDone at h
  simp only [Bool.and_eq_true, Bool.not_eq_true', List.isEmpty_iff] at h
  obtain ⟨⟨h1, h2⟩, h3⟩ := h
  have h4 : s.report.unacked.filter (·.expired) = [] := by
    rw [List.filter_eq_nil_iff]
    intro a ha hh
    rw [List.any_eq_false] at h3
    exact h3 a ha hh
  simp [State.finishTick, State.finishStale, State.forceIfDue, State.expireAll, h1, h2, h4]

/-- A command that finds the tick's work done has its own effect and the withdrawal of the promotion, and nothing more. -/
theorem takeClaim_of_tickDone (f : State → State) (s : State) (h : s.tickDone = true) :
    takeClaim f s = .next (f s).withdrawPromotion := by
  rw [takeClaim, State.finishTick_of_tickDone s h]

/-! ## The report unit -/

/-- The tally of an event touches no record and no other entry. -/
theorem State.tally_entry_other (s : State) (ev : Event) (i : Nat) (h : ev.subject ≠ .entry i) :
    (s.tally ev).entry i = s.entry i := by
  unfold State.tally
  split
  · rename_i e he
    exact State.modifyRun_entry_other s e i _ (fun h' => h (by rw [he, h']))
  all_goals rfl

@[simp] theorem State.tally_length (s : State) (ev : Event) : (s.tally ev).table.length = s.table.length := by
  unfold State.tally; split <;> simp

@[simp] theorem State.raise_table (s : State) (ev : Event) : (s.raise ev).table = (s.tally ev).table := by
  unfold State.raise; dsimp only; split <;> rfl

/-- The report queue after an event: untouched by a SILENT one, and otherwise as the event's placement leaves it (R116). -/
@[simp] theorem State.raise_queue (s : State) (ev : Event) :
    (s.raise ev).report.queue
      = if ev.eventClass = .silent then s.report.queue else placeEvent s.commit.generation ev s.report.queue := by
  unfold State.raise; dsimp only; split <;> simp

@[simp] theorem State.raise_unacked (s : State) (ev : Event) : (s.raise ev).report.unacked = s.report.unacked := by
  unfold State.raise; dsimp only; split <;> simp

@[simp] theorem State.raise_nextSequence (s : State) (ev : Event) :
    (s.raise ev).report.nextSequence = s.report.nextSequence := by
  unfold State.raise; dsimp only; split <;> simp

/-- The completion of a commit touches no entry (R107). -/
@[simp] theorem State.completeCommit_table (s : State) : s.completeCommit.table = s.table := by
  simp [State.completeCommit, State.tally]

@[simp] theorem State.completeCommit_commit (s : State) :
    s.completeCommit.commit = { s.commit with pending := false, deadline := 0 } := by
  simp [State.completeCommit]

@[simp] theorem State.completeCommit_unacked (s : State) : s.completeCommit.report.unacked = s.report.unacked := by
  simp [State.completeCommit]

/-- COMMIT-DONE is ROUTINE, of generation C, with the forced count as extra (R107). -/
theorem State.completeCommit_queue (s : State) :
    s.completeCommit.report.queue
      = placeEvent s.commit.generation
          ⟨.commit, .commitDone, .routine, s.commit.generation, none, some s.commit.forcedCount⟩ s.report.queue := by
  simp [State.completeCommit]

/-- A channel event's effect on the table: the tally and the last event kind of its entry (R116). -/
theorem State.raiseChannel_table (s : State) (e : Nat) (k : EventKind) (v : Option Int) :
    (s.raiseChannel e k v).table
      = (s.modifyRun e fun r => { r with tally := satAdd Config.byteMax r.tally 1, lastKind := some k }).table := by
  simp [State.raiseChannel, State.tally]

/-- Frames lost one after another leave the queue as the additions to the loss leave it (R128, R134). -/
theorem State.loseFrames_eq (s : State) (frames : List ReportFrame) :
    s.loseFrames frames
      = { s with
          report := { s.report with
            queue := frames.foldl (fun q f => addLoss s.commit.generation f.records.length q) s.report.queue } } := by
  unfold State.loseFrames
  induction frames generalizing s with
  | nil => rfl
  | cons f rest ih => simp only [List.foldl_cons]; rw [ih]; rfl

/-- The split of the list at the first frame that satisfies p, where there is one. -/
theorem splitThrough_append (p : ReportFrame → Bool) (older newer : List ReportFrame) (f : ReportFrame) (hf : p f = true)
    (h : ∀ x ∈ older, p x = false) : splitThrough p (older ++ f :: newer) = (older ++ [f], newer) := by
  induction older with
  | nil => simp [splitThrough, hf]
  | cons x rest ih =>
    have hx : p x = false := h x (by simp)
    simp [splitThrough, hx, ih (fun y hy => h y (by simp [hy]))]

/-- The records a frame takes are the first that qualify, at most n; those that do not qualify stay, and so do the later
ones, in their order (R124). -/
theorem takeRecords_spec (p : ReportRecord → Bool) (n : Nat) (q : List ReportRecord) :
    (takeRecords p n q).1 = (q.filter p).take n
      ∧ (takeRecords p n q).2.filter p = (q.filter p).drop n
      ∧ (takeRecords p n q).2.filter (fun r => !p r) = q.filter (fun r => !p r)
      ∧ (takeRecords p n q).2.Sublist q := by
  induction q generalizing n with
  | nil => cases n <;> simp [takeRecords]
  | cons r rest ih =>
    cases n with
    | zero => simp [takeRecords]
    | succ n =>
      by_cases hp : p r = true
      · obtain ⟨h1, h2, h3, h4⟩ := ih n
        simp [takeRecords, hp, h1, h2, h3, h4.cons]
      · obtain ⟨h1, h2, h3, h4⟩ := ih (n + 1)
        simp [takeRecords, hp, h1, h2, h3, h4]

/-- Adding to the loss of a queue without a LOSS record creates one as the newest record (R121). -/
theorem addLoss_of_absent (c : Byte) (k : Nat) (q : List ReportRecord) (h : ∀ x ∈ q, x.subject ≠ .loss) :
    addLoss c k q = q ++ [⟨.loss, .lost, .lost, true, 1, c, none, some (min 65535 k)⟩] := by
  have h' : holdsSubject q .loss = false := by
    rw [holdsSubject, List.any_eq_false]
    intro x hx
    simpa using h x hx
  simp [addLoss, h', satAdd, Config.counterMax]

/-! ## The trip groups -/

/-- After a hand-over each of the four groups is as `handGroup` leaves it. -/
theorem State.handOver_group (s : State) (g : Nat) (h : g < s.groups.length) :
    s.handOver.group g = s.handGroup g (s.group g) := by
  simp [State.handOver, State.group, List.getD_eq_getElem?_getD, List.getElem?_zipIdx, List.getElem?_eq_getElem h]

@[simp] theorem State.handOver_length (s : State) : s.handOver.groups.length = s.groups.length := by
  simp [State.handOver]

/-- A group handed the table takes its tripping members as its set (R135). -/
theorem State.handGroup_set (s : State) (g : Nat) (x : TripGroup) : (s.handGroup g x).set = s.trippingSet g := by
  unfold State.handGroup
  dsimp only
  split
  · rename_i h; exact h.symm
  · rfl

/-- The hand-over gives each group its tripping members and the state of Table 57. -/
theorem State.handOver_handsOver (s : State) (h : s.groups.length = 4) : s.handsOver s.handOver := by
  intro g hg
  have hset : s.handOver.trippingSet g = s.trippingSet g := rfl
  rw [s.handOver_group g (by omega), hset]
  refine ⟨s.handGroup_set g _, fun he => ?_, fun hne hs => ?_, fun hne hs => ?_⟩
  · simp [State.handGroup, he]
  · simp [State.handGroup, hne, GroupState.judge, hs]
  · have h1 : ¬[] = (s.group g).set := fun hh => hne (by rw [hs, hh])
    simp only [State.handGroup, hs, h1, if_false, List.isEmpty_nil, GroupState.judge]
    cases s.agent.settings.latch g <;> cases (s.group g).state <;> simp

end Sys2Proof.Machine
end

