-- ==== Sys2Proof/Laws/Requests.lean ====
section
/-! SUPPORT. The intake of a request, said once: what a request for this stage comes to where the four checks of R156 find
nothing, and what a reset's steps leave. -/

namespace Sys2Proof.Machine

open Sys2Proof

/-- A request frame for this stage reaches the checks of R156, on the device with its reception closed. -/
theorem State.requestEnd_of_addressed (s : State) (o : Option Operation) (target tag op : Byte) (operands : List Byte)
    (h : s.addressed target operands) :
    s.requestEnd o target tag op operands = s.afterHEnd.addressedRequest o tag op operands := by
  obtain ⟨-, hr, hf, ha⟩ := h
  simp only [State.hReceiving, Bool.and_eq_true, beq_iff_eq] at hr
  have h1 : s.requestEnd o target tag op operands = s.afterHEnd.takeRequest o target tag op operands := by
    unfold State.requestEnd State.hFrameEndWith
    rw [if_pos hr.1]
    dsimp only
    rw [if_pos hr.2, if_pos hf]
    rfl
  rw [h1]
  unfold State.takeRequest
  rw [if_pos (show s.afterHEnd.agent.address = some target from ha)]

/-- A mutating request that passes every check: executed, answered, and recorded unless it is the RESET (R156, R157). -/
theorem State.requestEnd_of_accepts (s : State) (o : Operation) (target tag op : Byte) (operands : List Byte)
    (h : s.accepts target tag operands) (hl : operands.length = o.operandLength) (hm : o.mutating operands = true) :
    s.requestEnd (some o) target tag op operands
      = let r := o.perform operands s.afterHEnd
        let t := r.state.respond (answer tag o.code r.status false r.payload)
        if o.recorded then t.record tag r.status else t := by
  obtain ⟨ha, hroom, hrec⟩ := h
  rw [State.requestEnd_of_addressed s _ target tag op operands ha]
  unfold State.addressedRequest
  rw [if_neg (show ¬Config.responseCapacity ≤ s.afterHEnd.agent.responses.length by
    show ¬2 ≤ s.agent.responses.length; omega)]
  dsimp only
  unfold State.answerRequest
  rw [if_neg (by simpa using hl), if_pos hm, show s.afterHEnd.recentStatus tag = none from hrec]
  simp [hm]

/-- A request that is not mutating and passes every check: executed and answered (R156). -/
theorem State.requestEnd_of_read (s : State) (o : Operation) (target tag op : Byte) (operands : List Byte)
    (h : s.addressed target operands) (hroom : s.agent.responses.length < 2) (hl : operands.length = o.operandLength)
    (hm : o.mutating operands = false) :
    s.requestEnd (some o) target tag op operands
      = let r := o.perform operands s.afterHEnd
        r.state.respond (answer tag o.code r.status false r.payload) := by
  rw [State.requestEnd_of_addressed s _ target tag op operands h]
  unfold State.addressedRequest
  rw [if_neg (show ¬Config.responseCapacity ≤ s.afterHEnd.agent.responses.length by
    show ¬2 ≤ s.agent.responses.length; omega)]
  dsimp only
  unfold State.answerRequest
  rw [if_neg (by simpa using hl)]
  simp [hm]

/-- An accepted mutating request as a command, for every operation that is recorded. -/
theorem takeClaim_requestEnd (s : State) (o : Operation) (target tag op : Byte) (operands : List Byte)
    (h : s.accepts target tag operands) (hl : operands.length = o.operandLength) (hm : o.mutating operands = true)
    (hr : o.recorded = true) :
    takeClaim (fun t => t.requestEnd (some o) target tag op operands) s
      = .next ((o.perform operands s.afterHEnd).state.answered tag o.code (o.perform operands s.afterHEnd).status
          (o.perform operands s.afterHEnd).payload) := by
  rw [takeClaim_of_tickDone _ _ h.1.1, State.requestEnd_of_accepts s o target tag op operands h hl hm]
  simp [hr, State.answered]

/-- Answering and recording a request touches the agent and the promotion counter alone. -/
@[simp] theorem State.answered_table (s : State) (tag op : Byte) (x : Status) (l : List Byte) :
    (s.answered tag op x l).table = s.table := by simp [State.answered]
@[simp] theorem State.answered_commit (s : State) (tag op : Byte) (x : Status) (l : List Byte) :
    (s.answered tag op x l).commit = s.commit := by simp [State.answered]
@[simp] theorem State.answered_report (s : State) (tag op : Byte) (x : Status) (l : List Byte) :
    (s.answered tag op x l).report = s.report := by simp [State.answered]
@[simp] theorem State.answered_map (s : State) (tag op : Byte) (x : Status) (l : List Byte) :
    (s.answered tag op x l).map = s.map := by simp [State.answered]
@[simp] theorem State.answered_inbound (s : State) (tag op : Byte) (x : Status) (l : List Byte) :
    (s.answered tag op x l).inbound = s.inbound := by simp [State.answered]
@[simp] theorem State.answered_fPort (s : State) (tag op : Byte) (x : Status) (l : List Byte) :
    (s.answered tag op x l).fPort = s.fPort := by simp [State.answered]
@[simp] theorem State.answered_hPort (s : State) (tag op : Byte) (x : Status) (l : List Byte) :
    (s.answered tag op x l).hPort = s.hPort := by simp [State.answered]
@[simp] theorem State.answered_groups (s : State) (tag op : Byte) (x : Status) (l : List Byte) :
    (s.answered tag op x l).groups = s.groups := by simp [State.answered]
@[simp] theorem State.answered_settings (s : State) (tag op : Byte) (x : Status) (l : List Byte) :
    (s.answered tag op x l).agent.settings = s.agent.settings := by simp [State.answered, State.respond, State.record]
@[simp] theorem State.answered_responses (s : State) (tag op : Byte) (x : Status) (l : List Byte) :
    (s.answered tag op x l).agent.responses = s.agent.responses ++ [answer tag op x false l] := by
  simp [State.answered, State.respond, State.record]

/-- The entry after an acceptance's tests: switched at its boundary, or waiting (R100). -/
theorem State.acceptUnits_entry (s : State) (e : Nat) (h : e < s.table.length) :
    s.acceptUnits.entry e
      = if s.switchesAtOnce (s.unitLower e) then s.switchedEntry false e (s.entry e)
        else { s.entry e with run := { (s.entry e).run with waiting := true } } := by
  simp [State.acceptUnits, State.entry_eq_getElem?, mapEntries_getElem?, List.getElem?_eq_getElem h]

/-- A promotion counter at 0 is not withdrawn. -/
theorem State.withdrawPromotion_of_zero (s : State) (h : s.promotion = 0) : s.withdrawPromotion = s := by
  unfold State.withdrawPromotion
  split
  · rfl
  · cases s; simp_all

/-- The last step of every reset (R133, R134, R162): the cause, and RESTARTED placed with it. -/
theorem State.restart_eq (s : State) (c : ResetCause) :
    s.restart c
      = { s with
          agent := { s.agent with lastCause := c }
          report := { s.report with
            queue := placeEvent s.commit.generation
              ⟨.restart, .restarted, .urgent, s.commit.generation, none, some c.code⟩ s.report.queue } } := by
  simp [State.restart, State.raiseRestarted, State.raise, State.tally]

/-- An event placed in an empty queue makes its record (R117). -/
theorem placeEvent_nil (c : Byte) (ev : Event) : placeEvent c ev [] = [ev.record] := by
  simp [placeEvent, holdsSubject, generalRecords, Config.generalSlots]

/-- The forcing of a pending commit and the run-state resets of a pin or request reset (R111, R44): a waiting entry takes its
staging record, and every run state is as after power-on but for generation C. -/
theorem State.forceForReset_clearRuns_table (s : State) (h : s.generationLaw) :
    s.forceForReset.clearRuns.table
      = s.table.map fun x =>
          ⟨if x.run.waiting then x.staging else x.live, x.staging,
            { RunState.initial with generation := s.commit.generation }⟩ := by
  apply List.ext_getElem?
  intro i
  by_cases hp : s.commit.pending = true
  · simp only [State.clearRuns, State.forceForReset, hp, if_true, State.forceWaiting, State.switchEntries,
      List.getElem?_map, mapEntries_getElem?, Option.map_map]
    cases hx : s.table[i]? with
    | none => rfl
    | some x =>
      simp only [Option.map_some, Function.comp]
      by_cases hw : x.run.waiting = true
      · simp [hw, State.switchedEntry_live, State.switchedEntry_staging, RunState.cleared, RunState.initial]
      · simp [hw, RunState.cleared, RunState.initial]
  · have hn := h.2 (by simpa using hp)
    simp only [State.clearRuns, State.forceForReset, hp, List.getElem?_map]
    cases hx : s.table[i]? with
    | none => simp [hx]
    | some x => simp [hx, hn.2 x (List.mem_of_getElem? hx), RunState.cleared, RunState.initial]

/-- The forcing of a reset leaves C, no pending commit and deadline remaining 0 (R111, R98). -/
theorem State.forceForReset_commit (s : State) (h : s.generationLaw) :
    s.forceForReset.commit.generation = s.commit.generation ∧ s.forceForReset.commit.pending = false
      ∧ s.forceForReset.commit.deadline = 0 := by
  unfold State.forceForReset
  split
  · exact ⟨rfl, rfl, rfl⟩
  · rename_i hp
    exact ⟨rfl, by simpa using hp, (h.2 (by simpa using hp)).1⟩

end Sys2Proof.Machine
end

