-- ==== Sys2Proof/Laws/Tick.lean ====
section
/-! SUPPORT. The tick's steps, said once: what the aging leaves in every entry and which entries it finds at their limit. -/

namespace Sys2Proof.Machine

open Sys2Proof

/-- Whether an entry is watched rests on the map and the live slots alone. -/
theorem State.watched_congr (s t : State) (e : Nat) (hm : t.map = s.map)
    (h : ∀ i, (t.entry i).live = (s.entry i).live) : t.watched e = s.watched e := by
  simp [State.watched, State.mapped, State.pairedUpper, hm, h]

/-- Aging: a watched entry of the table is one tick older, every other entry is as it was (R90). -/
theorem State.ageEntries_entry (s : State) (e : Nat) (h : e < s.table.length) :
    s.ageEntries.entry e
      = if s.watched e then
          { s.entry e with run := { (s.entry e).run with age := min 65535 ((s.entry e).run.age + 1) } }
        else s.entry e := by
  simp only [State.ageEntries, State.entry_eq_getElem?, mapEntries_getElem?]
  rw [List.getElem?_eq_getElem h]
  simp [satAdd, Config.counterMax]

@[simp] theorem State.ageEntries_length (s : State) : s.ageEntries.table.length = s.table.length := by
  simp [State.ageEntries]

/-- Aging touches no record. -/
theorem State.ageEntries_live (s : State) (e : Nat) : (s.ageEntries.entry e).live = (s.entry e).live := by
  by_cases h : e < s.table.length
  · rw [State.ageEntries_entry s e h]; split <;> rfl
  · rw [State.entry_of_le, State.entry_of_le]
    · omega
    · simp; omega

/-- The entries the comparison of R92 finds at their limit, by the ages before the tick. -/
theorem State.ageStep_staleDue (s : State) (h : s.table.length = 96) :
    s.ageStep.staleDue
      = (List.range 96).filter fun e => s.watched e && (s.entry e).live.staleLimit != 0
          && decide ((s.entry e).live.staleLimit ≤ min 65535 ((s.entry e).run.age + 1))
          && (s.entry e).run.condition != .stale := by
  show List.filter _ (List.range 96) = _
  apply List.filter_congr
  intro e he
  have he : e < 96 := by simpa using he
  unfold State.staleReached
  rw [State.watched_congr s s.ageEntries e rfl s.ageEntries_live, State.ageEntries_live,
    State.ageEntries_entry s e (by omega)]
  cases hw : s.watched e <;> simp

/-- A commit whose deadline does not run out takes its step with no forcing (R105). -/
theorem State.deadlineStep_forceIfDue (s : State) (h : ¬(s.commit.pending = true ∧ s.commit.deadline ≤ 1)) :
    s.deadlineStep.forceIfDue = s.deadlineStep := by
  unfold State.forceIfDue
  rw [if_neg]
  unfold State.forcingDue State.deadlineStep
  by_cases hp : s.commit.pending = true
  · have h2 : ¬s.commit.deadline ≤ 1 := fun hh => h ⟨hp, hh⟩
    simp [hp]
    omega
  · simp [hp]

end Sys2Proof.Machine
end

