-- ==== Sys2Proof/Tests/Slice0.lean ====
section
/-! SUPPORT. Tests: one command each on a small state, with results taken from the manual's tables and worked sequences;
ill-formed commands that the check refuses; and, for every statement with hypotheses, a state that meets them. -/

set_option Elab.async false

namespace Sys2Proof.Tests

open Sys2Proof Sys2Proof.Machine

/-! ## Helpers -/

/-- Whether a command gives a next state with a property. -/
def gives (i : Instr) (s : State) (p : State → Bool) : Bool :=
  match exec i s with
  | .next t => p t
  | .fault _ => false
  | .refused _ => false

/-- A receive side in UP, between frames. -/
def upRx : RxSide := ⟨.up, 32, 0, 0, .between⟩
/-- A receive side in UP with a frame open. -/
def openRx : RxSide := ⟨.up, 32, 0, 0, .inFrame []⟩

/-- A stage with address 5, both lines UP, and an empty report queue. -/
def stage : State :=
  { State.reset with
    report := ⟨[], [], 0⟩
    hPort := { State.reset.hPort with rx := upRx }
    fPort := { State.reset.fPort with rx := upRx }
    agent := { State.reset.agent with address := some 5 } }

/-- A frame is open at the H port. -/
def openH (s : State) : State := { s with hPort := { s.hPort with rx := openRx } }
/-- A frame is open at the F port. -/
def openF (s : State) : State := { s with fPort := { s.fPort with rx := openRx } }
/-- The stage with a frame open at the H port. -/
def listening : State := openH stage

/-- A record with enable yes. -/
def on : ConfigRecord := { ConfigRecord.default with enable := true }

/-- Entry e with this record in both slots and this run state. -/
def withEntry (e : Nat) (r : ConfigRecord) (run : RunState) (s : State) : State :=
  { s with table := s.table.set e ⟨r, r, run⟩ }
/-- Entry e with another record staged. -/
def staged (e : Nat) (r : ConfigRecord) (s : State) : State :=
  { s with table := s.table.modify e fun x => { x with staging := r } }
/-- A key in the map. -/
def keyed (node channel e : Nat) (s : State) : State := { s with map := insertKey ⟨node, channel, e⟩ s.map }

/-- A valid sample of a channel and value. -/
def sample (channel : Nat) (v : Int) : Sample := ⟨BitVec.ofNat 8 (64 + channel), BitVec.ofInt 16 v⟩
/-- A frame of samples from a node waits for its claim. -/
def arrived (node : Byte) (xs : List Sample) (s : State) : State :=
  { s with inbound := [⟨.pending, sampleFrameBytes node xs⟩] }

/-- The status and payload of the newest response. -/
def lastAnswer (s : State) : Option (Status × List Byte) := s.agent.responses.getLast?.map fun r => (r.status, r.payload)

/-- A record of an entry, as an event of a kind left it. -/
def entryRecord (e : Nat) (kind : EventKind) (urgent : Bool) (value : Option Int) : ReportRecord :=
  ⟨.entry e, kind, kind, urgent, 1, 6, value, none⟩

/-! ## Word formats (chapter 2) -/

/-- The check value of R19. -/
theorem test_crc_check_value : crc [0x31, 0x32, 0x33, 0x34, 0x35, 0x36, 0x37, 0x38, 0x39] = 0x29B1 := by decide +kernel

/-- A sample head written out from Table 12: qualified 1, valid 1, tag HIGH 10, channel 0110. -/
theorem test_tagged_head : (sample 6 0).tagged .high = ⟨0b11100110, 0⟩ := by decide +kernel

/-- Table 19 by hand: flags 0Dh, H 1000 = 03E8h, hysteresis 50 = 32h, pe 3 and pr 2, P 2, W 1, classes URGENT, ROUTINE and
ROUTINE, no stale limit, trip group 2 on HIGH. -/
theorem test_record_bytes :
    (ConfigRecord.bytes
      { on with
        highCheck := true, lowCheck := true, high := 1000, low := -1, hysteresis := 50, enterPersistence := 3
        returnPersistence := 2, period := 2, limitClass := .urgent, tripGroup := some 2, tripHigh := true })
      = [0x0D, 0, 0, 0, 0, 0, 0, 0x03, 0xE8, 0xFF, 0xFF, 0xFF, 0xFF, 0, 0, 0, 0x32, 0x32, 2, 1, 0b010110, 0, 0, 0b10010010] := by
  decide +kernel

/-- The default settings of Table 20. -/
theorem test_settings_bytes : Settings.default.bytes = [0x01, 0x32, 0x03, 0x02, 0x00] := by decide +kernel

/-- No word of the table has bits. -/
theorem test_no_word_spells_a_command : decodeTableWord 8 0x51 = none := by decide

/-! ## Well-formed commands: each check refuses an ill-formed command -/

theorem test_wf_pin_reset_too_short : (Instr.pinReset 99).wellFormed = false ∧ (Instr.pinReset 100).wellFormed = true := by
  decide +kernel
theorem test_wf_sample_frame_too_long : (Instr.sampleFrame (List.replicate 65 0)).wellFormed = false := by decide +kernel
theorem test_wf_sample_frame_of_another_row :
    (Instr.sampleFrame (reportFrameBytes 5 0 [ReportRecord.restarted 0 0])).wellFormed = false := by decide +kernel
theorem test_wf_transit_frame_too_long : (Instr.transitFrame (List.replicate 65 0)).wellFormed = false := by decide +kernel
theorem test_wf_transit_frame_of_another_row :
    (Instr.transitFrame (sampleFrameBytes 3 [sample 1 5])).wellFormed = false := by decide +kernel
theorem test_wf_enumeration_mode : (Instr.enumeration 2 1 0 0).wellFormed = false := by decide +kernel
theorem test_wf_enumeration_next : (Instr.enumeration 0 32 0 0).wellFormed = false := by decide +kernel
theorem test_wf_enumeration_flags : (Instr.enumeration 0 1 2 0).wellFormed = false := by decide +kernel
theorem test_wf_request_target :
    (Instr.readSettings 0 0 []).wellFormed = false ∧ (Instr.readSettings 32 0 []).wellFormed = false := by decide +kernel
theorem test_wf_request_operands : (Instr.commit 1 0 (List.replicate 58 0)).wellFormed = false := by decide +kernel
theorem test_wf_unknown_op_of_a_listed_code :
    (Instr.unknownOp 0x0D 1 0 []).wellFormed = false ∧ (Instr.unknownOp 0x0E 1 0 []).wellFormed = true := by decide +kernel
theorem test_wf_stale_entry : (Instr.stale 96).wellFormed = false ∧ (Instr.stale 95).wellFormed = true := by decide +kernel
theorem test_wf_h_discard_too_long : (Instr.hReceiveDiscard (List.replicate 65 0)).wellFormed = false := by decide +kernel
theorem test_wf_h_discard_of_a_request :
    (Instr.hReceiveDiscard (requestFrameBytes 5 0 0x0B [])).wellFormed = false
      ∧ (Instr.hReceiveDiscard (enumerationFrameBytes 0 1 0 0)).wellFormed = false := by decide +kernel

/-! ## Resets and power -/

/-- R178: silent transmitters and lines DOWN throughout the hold. -/
theorem test_power_on_reset :
    gives .powerOnReset stage (fun t => t.hPort.tx.out == .silence && t.fPort.rx.state == .down && !t.running) = true := by
  decide +kernel

/-- R178 and Table 72: the hold ends with RSTn high and lasts on with RSTn low. -/
theorem test_power_on_hold_end :
    gives .powerOnHoldEnd { stage with power := .hold 8 } (fun t => t == State.reset) = true
      ∧ gives .powerOnHoldEnd { stage with power := .hold 8, rstn := false } (fun t => !t.running) = true := by
  decide +kernel

/-- Tables 46 and 54: a pin reset keeps C and leaves RESTARTED with extra PIN. -/
theorem test_pin_reset :
    gives (.pinReset 100) { stage with commit := ⟨7, false, 0, 0⟩ } (fun t =>
      t.commit.generation == 7 && t.report.queue == [ReportRecord.restarted 1 7] && t.hPort.tx.out == .silence) = true := by
  decide +kernel
/-- R179: a low level of 99 ns is ignored. -/
theorem test_pin_reset_glitch : gives (.pinReset 99) stage (fun t => t == stage) = true := by decide +kernel

/-- R16: on the release the transmitters start sending IDLE and the receive sides are DOWN. -/
theorem test_pin_reset_release :
    gives .pinResetRelease { stage with rstn := false } (fun t =>
      t.running && t.hPort.tx.out == .symbol .idle && t.fPort.rx == RxSide.inDown) = true := by decide +kernel

/-! ## Lines and frames (chapter 1) -/

/-- R2 and R3: the first symbol starts the idle count at 1 where it is IDLE, and at 0 otherwise. -/
theorem test_first_recognised_symbol :
    gives (.firstRecognisedSymbol .f .idle) State.reset (fun t => t.fPort.rx.state == .acquiring && t.fPort.rx.idleCount == 1)
      = true
    ∧ gives (.firstRecognisedSymbol .h .stop) State.reset (fun t => t.hPort.rx.idleCount == 0) = true := by decide +kernel

/-- R3 and R6, with section 13.1: FIELD-UP joins the queue behind RESTARTED, URGENT. -/
theorem test_acquisition_complete :
    gives (.acquisitionComplete .f) { State.reset with fPort := { State.reset.fPort with rx := { upRx with state := .acquiring } } }
      (fun t => t.fPort.rx.state == .up && t.report.queue == [ReportRecord.restarted 0 0,
        ⟨.fieldLine, .fieldUp, .fieldUp, true, 1, 0, none, none⟩]) = true := by decide +kernel

/-- R3 and R7: a failed acquisition at the H port returns to DOWN and raises nothing. -/
theorem test_acquisition_timeout :
    gives (.acquisitionTimeout .h) { stage with hPort := { stage.hPort with rx := { upRx with state := .acquiring } } }
      (fun t => t.hPort.rx == RxSide.inDown && t.report.queue.isEmpty && t.agent.address == some 5) = true := by decide +kernel

/-- R4: the frame in reception is abandoned and counted once. -/
theorem test_line_interrupted :
    gives (.lineInterrupted .f) (openF stage)
      (fun t => t.fPort.rx.state == .interrupted && t.agent.counters.fReceiveDiscards == 1) = true := by decide +kernel

/-- R5: a symbol of any type resumes the line, and a START opens no frame. -/
theorem test_line_resumed :
    gives (.lineResumed .h .start) { stage with hPort := { stage.hPort with rx := { upRx with state := .interrupted } } }
      (fun t => t.hPort.rx == upRx) = true := by decide +kernel

/-- Section 13.6: frames of 2, 1 and 4 records are lost at the head-loss reset, in three additions. -/
theorem test_line_down_timeout :
    gives (.lineDownTimeout .h)
      { stage with
        hPort := { stage.hPort with rx := { upRx with state := .interrupted } }
        commit := ⟨6, false, 0, 0⟩
        report := ⟨[entryRecord 12 .enterHigh true (some 1), entryRecord 20 .stale false none,
            ⟨.fieldLine, .fieldUp, .fieldUp, true, 1, 6, none, none⟩],
          [⟨8, List.replicate 2 (ReportRecord.restarted 0 0), 1, 0, false, false⟩,
            ⟨9, [ReportRecord.restarted 0 0], 1, 0, false, false⟩,
            ⟨10, List.replicate 4 (ReportRecord.restarted 0 0), 1, 0, false, false⟩], 11⟩ }
      (fun t => t.report.queue.map (·.subject) == [.entry 12, .entry 20, .fieldLine, .loss, .restart]
        && t.report.queue.drop 3 == [⟨.loss, .lost, .lost, true, 3, 6, none, some 7⟩, ReportRecord.restarted 3 6]
        && t.report.unacked == [] && t.report.nextSequence == 0 && t.agent.address == none) = true := by decide +kernel

/-- R8: with ten buffers in use a START is refused one, and counted as an inbound drop. -/
theorem test_frame_start_refused :
    gives (.frameStart .f) { stage with inbound := List.replicate 10 ⟨.ready, []⟩ }
      (fun t => t.fPort.rx.reception == .refused && t.agent.counters.inboundDrops == 1) = true := by decide +kernel
/-- R8: a START in a frame abandons and counts that frame, and opens the new one. -/
theorem test_frame_start_in_a_frame :
    gives (.frameStart .h) listening
      (fun t => t.hPort.rx.reception == .inFrame [] && t.agent.counters.hReceiveDiscards == 1) = true := by decide +kernel

/-- R9: an IDLE in a frame abandons it, counted once. -/
theorem test_frame_abandon :
    gives (.frameAbandon .f .idleInFrame) (openF stage)
      (fun t => t.fPort.rx == upRx && t.agent.counters.fReceiveDiscards == 1) = true := by decide +kernel

/-- R11: a sample frame waits for its claim. -/
theorem test_sample_frame :
    gives (.sampleFrame (sampleFrameBytes 3 [sample 1 5])) (openF stage)
      (fun t => t.inbound == [⟨.pending, sampleFrameBytes 3 [sample 1 5]⟩]) = true := by decide +kernel
/-- R20: an origin node above 63 fails the format check. -/
theorem test_sample_frame_bad_node :
    gives (.sampleFrame (sampleFrameBytes 64 [sample 1 5])) (openF stage)
      (fun t => t.inbound == [] && t.agent.counters.fReceiveDiscards == 1) = true := by decide +kernel

/-- R11: a report frame of an outer stage is READY at once. -/
theorem test_transit_frame :
    gives (.transitFrame (reportFrameBytes 9 0 [ReportRecord.restarted 0 0])) (openF stage)
      (fun t => t.inbound.map (·.state) == [.ready]) = true := by decide +kernel

/-- R12: a sample frame at the H port is misdirected. -/
theorem test_h_receive_discard :
    gives (.hReceiveDiscard (sampleFrameBytes 3 [])) listening (fun t => t.agent.counters.hReceiveDiscards == 1) = true := by
  decide +kernel

/-! ## The agent (chapters 11 and 12) -/

/-- R153 and R154: a renumbered stage takes the address and passes the next one on. -/
theorem test_enumeration :
    gives (.enumeration 1 9 0 77) listening (fun t => t.agent.address == some 9
      && t.agent.responses == [⟨77, 0, .addressed, false, [], some 9, false⟩]
      && t.agent.outbound == [⟨enumerationFrameBytes 1 10 0 77, false⟩]) = true := by decide +kernel
/-- R153: next address 31 sets the exhausted flag. -/
theorem test_enumeration_exhausted :
    gives (.enumeration 1 31 0 77) listening (fun t => t.agent.address == some 5
      && t.agent.outbound == [⟨enumerationFrameBytes 1 31 1 77, false⟩]) = true := by decide +kernel

/-- Table 21: address 5 in state ADDRESSED is 85h. -/
theorem test_identify :
    gives (.identify 5 1 [0]) listening (fun t => lastAnswer t == some (.done,
      [0x6C, 0x96, 0x02, 0x85, 0, 0, 0, 0, 0, 0, 0, 0, 0, 0, 0, 0, 0, 0, 0, 0, 0, 0, 0, 0])) = true := by decide +kernel

/-- R28: an untouched entry reads back as the default record. -/
theorem test_read_entry :
    gives (.readEntry 5 1 [95, 1]) listening (fun t => lastAnswer t == some (.done,
      [95, 1, 0, 0, 0, 0, 0, 0, 0, 0, 0, 0, 0, 0, 0, 0, 0, 0, 0, 0x11, 1, 1, 0b010101, 0, 0, 0])) = true := by decide +kernel

/-- R29 and R30: a record with pair yes is invalid in an odd entry. -/
theorem test_write_entry_pair_in_an_odd_entry :
    gives (.writeEntry 5 1 (7 :: { on with pair := true }.bytes)) listening (fun t => lastAnswer t == some (.invalid, [])
      && (t.entry 7).staging == ConfigRecord.default) = true := by decide +kernel
theorem test_write_entry :
    gives (.writeEntry 5 1 (6 :: { on with pair := true }.bytes)) listening (fun t => lastAnswer t == some (.done, [])
      && (t.entry 6).staging == { on with pair := true } && (t.entry 6).live == ConfigRecord.default) = true := by decide +kernel

/-- Table 22: NORMAL, a last value of −2, age 258, generation 4. -/
theorem test_read_state :
    gives (.readState 5 1 [9, 1])
      (withEntry 9 on ⟨.normal, 0, 0, 258, some (-2), 4, false, 0, 3, some .enterLow⟩ listening)
      (fun t => lastAnswer t == some (.done, [9, 1, 1, 0, 0, 1, 2, 0xFF, 0xFF, 0xFF, 0xFE, 4, 0, 3, 2])
        && (t.entry 9).run.tally == 0 && (t.entry 9).run.lastKind == none) = true := by decide +kernel

/-- R41: an entry is the target of at most one key. -/
theorem test_map_add_claimed :
    gives (.mapAdd 5 1 [0, 1, 7]) (keyed 0 0 7 listening) (fun t => lastAnswer t == some (.claimed, []) && t.map.length == 1)
      = true := by decide +kernel
/-- R39: keys stand in ascending order. -/
theorem test_map_add_order :
    gives (.mapAdd 5 1 [1, 0, 7]) (keyed 0 15 8 (keyed 2 0 9 listening))
      (fun t => t.map == [⟨0, 15, 8⟩, ⟨1, 0, 7⟩, ⟨2, 0, 9⟩]) = true := by decide +kernel

/-- R42 and R33: the entry named receives a run-state reset. -/
theorem test_map_remove :
    gives (.mapRemove 5 1 [0, 0]) (keyed 0 0 7 (withEntry 7 on { RunState.initial with condition := .high, age := 3 } listening))
      (fun t => lastAnswer t == some (.done, []) && t.map == [] && (t.entry 7).run == RunState.initial) = true := by decide +kernel

/-- R26: total, items, then the items from the start position. -/
theorem test_map_list :
    gives (.mapList 5 1 [1]) (keyed 0 0 7 (keyed 3 2 9 listening)) (fun t => lastAnswer t == some (.done, [2, 1, 3, 2, 9]))
      = true := by decide +kernel

/-- Section 13.5 before the commit: entry 42 HIGH-CLEARING at position 3 of 10 and entry 70 NORMAL at position 1 of 4. -/
def beforeCommit : State :=
  let r := { on with highCheck := true, high := 1000, hysteresis := 50, returnPersistence := 2 }
  staged 42 { r with high := 9, period := 10 } <| staged 70 { r with staleLimit := 9, period := 4 }
    <| keyed 1 0 42 <| keyed 1 1 70
    <| withEntry 42 { r with period := 10 }
        { RunState.initial with condition := .highClearing, persistence := 1, position := 3, generation := 7 }
    <| withEntry 70 { r with period := 4 } { RunState.initial with condition := .normal, position := 1, generation := 7 }
      { listening with
        commit := ⟨7, false, 0, 0⟩
        table := State.reset.table.map fun x => { x with run := { x.run with generation := 7 } } }

/-- Table 75, step 1: waiting 2, C 8, and the two entries keep generation 7. R91: the switch of a watched entry keeps its age. -/
theorem test_commit :
    gives (.commit 5 1 [0, 5]) beforeCommit (fun t => lastAnswer t == some (.accepted, [2]) && t.commit == ⟨8, true, 5, 0⟩
      && (t.entry 42).run.generation == 7 && (t.entry 41).run.generation == 8) = true
    ∧ gives (.commit 5 1 [0, 5]) (keyed 1 6 17 (withEntry 17 on { RunState.initial with age := 6 } listening))
      (fun t => (t.entry 17).run.condition == .idle && (t.entry 17).run.age == 6) = true := by decide +kernel
/-- R106: deadline 0 changes the table over at once, with the forced count 2. -/
theorem test_commit_deadline_zero :
    gives (.commit 5 1 [0, 0]) beforeCommit (fun t => lastAnswer t == some (.accepted, [2]) && t.commit == ⟨8, false, 0, 2⟩
      && (t.entry 42).run.condition == .high && (t.entry 42).run.position == 0) = true := by decide +kernel

/-- R129: the acknowledgement of the second frame releases two. -/
theorem test_report_ack :
    gives (.reportAck 5 1 [9])
      { listening with report := ⟨[], [⟨8, [ReportRecord.restarted 0 0], 1, 0, false, false⟩,
        ⟨9, [ReportRecord.restarted 0 0], 1, 0, false, false⟩, ⟨10, [ReportRecord.restarted 0 0], 1, 0, false, false⟩], 11⟩ }
      (fun t => lastAnswer t == some (.done, [2]) && t.report.unacked.map (·.sequence) == [10]) = true := by decide +kernel

/-- Groups CLEAR, ASSERTED, LATCHED and CLEAR: the group-states byte is 00100100. -/
def groupsOfThreeStates : State := { listening with groups := [⟨[], .clear⟩, ⟨[3], .asserted⟩, ⟨[], .latched⟩, ⟨[], .clear⟩] }

/-- Table 58: FFh releases the LATCHED group and reports the ASSERTED one. -/
theorem test_trip_ack :
    gives (.tripAck 5 1 [255]) groupsOfThreeStates (fun t => lastAnswer t == some (.active, [0b00000100])) = true := by
  decide +kernel

/-- Table 20. -/
theorem test_read_settings :
    gives (.readSettings 5 1 []) listening (fun t => lastAnswer t == some (.done, [0x01, 0x32, 0x03, 0x02, 0x00])) = true := by
  decide +kernel

/-- R173: a change of tick period is refused while a commit is PENDING. -/
theorem test_write_settings_busy :
    gives (.writeSettings 5 1 [2, 50, 3, 2, 2]) { listening with commit := ⟨11, true, 120, 0⟩ }
      (fun t => lastAnswer t == some (.busy, []) && t.agent.settings == Settings.default) = true := by decide +kernel
/-- R139: a LATCHED group made FOLLOW becomes CLEAR. -/
theorem test_write_settings :
    gives (.writeSettings 5 1 [1, 50, 5, 2, 0]) groupsOfThreeStates (fun t => lastAnswer t == some (.done, [])
      && t.groups.map (·.state) == [.clear, .asserted, .clear, .clear] && t.agent.settings.retryLimit == 5) = true := by
  decide +kernel

/-- R176: the address stays, RESTARTED has extra REQUEST, and DONE is the only response. -/
theorem test_reset :
    gives (.reset 5 75 []) listening (fun t => t.agent.address == some 5 && t.report.queue == [ReportRecord.restarted 2 0]
      && t.agent.responses == [answer 75 0x0D .done false []]) = true := by decide +kernel

/-- R156: the response echoes the unlisted code. -/
theorem test_unknown_op :
    gives (.unknownOp 0x0E 5 1 [1, 2]) listening
      (fun t => t.agent.responses == [answer 1 0x0E .unknownOp false []] && t.agent.recent == []) = true := by decide +kernel

/-! ## The qualifier (chapters 4 and 5, section 13.3) -/

/-- Entry 17 of section 13.3, in the condition and at the position given. -/
def entry17 (condition : Condition) (count position : Nat) : State :=
  keyed 1 6 17 <| withEntry 17
    { on with
      highCheck := true, high := 1000, hysteresis := 50, offset := -10, enterPersistence := 3, returnPersistence := 2
      period := 2, alarmBurst := true, limitClass := .urgent }
    { RunState.initial with condition := condition, persistence := count, position := position, generation := 2 } stage

/-- Table 73, sample 3: HIGH, ENTER-HIGH with v 1020, tag HIGH, forwarded. -/
theorem test_frame_claim_enters_high :
    gives .frameClaim (arrived 1 [sample 6 1030] (entry17 .rising 2 0)) (fun t => (t.entry 17).run.condition == .high
      && t.report.queue == [⟨.entry 17, .enterHigh, .enterHigh, true, 1, 2, some 1020, none⟩]
      && t.inbound == [⟨.ready, sampleFrameBytes 1 [(sample 6 1030).tagged .high]⟩]) = true := by decide +kernel
/-- Table 73, sample 2: RISING 2, removed by the schedule, so the frame is dropped; R61 and R74: of three
invalid samples to an IDLE entry of period 2 and duty 1 the second is removed, and the position becomes 1. -/
theorem test_frame_claim_thins :
    gives .frameClaim (arrived 1 [sample 6 1020] (entry17 .rising 1 1)) (fun t => (t.entry 17).run.condition == .rising
      && (t.entry 17).run.persistence == 2 && (t.entry 17).run.position == 0 && t.inbound == []) = true
    ∧ gives .frameClaim (arrived 1 [⟨6, 0⟩, ⟨6, 1⟩, ⟨6, 2⟩] (entry17 .idle 0 0)) (fun t => (t.entry 17).run.condition == .idle
      && (t.entry 17).run.position == 1
      && t.inbound == [⟨.ready, sampleFrameBytes 1 [⟨0x86, 0⟩, ⟨0x86, 2⟩]⟩]) = true := by
  decide +kernel

/-! ## Ticks -/

/-- Entry 9 watched with stale limit 3 at an age. -/
def aging (age : Nat) : State :=
  keyed 4 0 9 <| withEntry 9 { on with staleLimit := 3, staleClass := .urgent, tripGroup := some 1, tripStale := true }
    { RunState.initial with condition := .normal, age := age } stage

/-- R90 and R92: the third tick finds entry 9 at its limit. -/
theorem test_tick :
    gives (.tick false) (aging 2) (fun t => (t.entry 9).run.age == 3 && t.staleDue == [9]) = true := by decide +kernel

/-- Table 43: STALE is raised, and its trip group asserts. -/
theorem test_stale :
    gives (.stale 9) { aging 3 with staleDue := [9] } (fun t => (t.entry 9).run.condition == .stale
      && (t.group 1).state == .asserted && t.tripLine 1 == .low
      && t.report.queue == [⟨.entry 9, .stale, .stale, true, 1, 0, none, none⟩]) = true := by decide +kernel

/-- Table 75, step 6: entry 42, waiting at position 5, is forced, and COMMIT-DONE has extra 1. -/
def beforeForcing : State :=
  staged 42 { on with high := 9, period := 10 } <| keyed 1 0 42
    <| withEntry 42 { on with period := 10 }
        { RunState.initial with condition := .normal, position := 5, generation := 7, waiting := true }
      { stage with
        commit := ⟨8, true, 0, 0⟩
        table := State.reset.table.map fun x => { x with run := { x.run with generation := 8 } } }

theorem test_deadline_forcing :
    gives .deadlineForcing beforeForcing (fun t => t.commit == ⟨8, false, 0, 1⟩ && (t.entry 42).run.position == 0
      && (t.entry 42).run.generation == 8
      && t.report.queue == [⟨.commit, .commitDone, .commitDone, false, 1, 8, none, some 1⟩]) = true := by decide +kernel

/-- Frame 20 of section 13.4, expired: 3 records, sent as often as given. -/
def expired20 (sends : Nat) : State :=
  { stage with
    commit := ⟨6, false, 0, 0⟩
    report := ⟨[], [⟨20, List.replicate 3 (ReportRecord.restarted 0 0), sends, 50, false, true⟩,
      ⟨21, [ReportRecord.restarted 0 0], 1, 0, false, false⟩], 22⟩ }

/-- Table 74, step 6: sends spent, so the frame is discarded and its 3 records are lost. -/
theorem test_retry_expiry_discards :
    gives (.retryExpiry 20) (expired20 4) (fun t => t.report.unacked.map (·.sequence) == [21]
      && t.report.queue == [⟨.loss, .lost, .lost, true, 1, 6, none, some 3⟩]) = true := by decide +kernel
/-- R127: with a send left the frame becomes due. -/
theorem test_retry_expiry_retries :
    gives (.retryExpiry 20) (expired20 3) (fun t => t.report.unacked.map (·.due) == [true, false]) = true := by decide +kernel

/-! ## Arbitration and transmission -/

/-- Section 13.6 after the enumeration: the five records wait. -/
def fiveRecords : State :=
  { stage with
    report := ⟨[entryRecord 12 .enterHigh true (some 1), entryRecord 20 .stale false none,
      ⟨.fieldLine, .fieldUp, .fieldUp, true, 1, 6, none, none⟩, ⟨.loss, .lost, .lost, true, 3, 6, none, some 7⟩,
      ReportRecord.restarted 3 6], [], 0⟩ }

/-- Table 76, step 3: frame 0 takes the four URGENT records and is 34 bytes long. -/
theorem test_grant_urgent :
    gives .grant fiveRecords (fun t => t.report.queue.map (·.subject) == [.entry 20]
      && t.report.unacked.map (fun f => (f.sequence, f.records.length)) == [(0, 4)]
      && t.hPort.tx.frame.map (·.bytes.length) == some 34) = true := by decide +kernel
/-- Section 10.2: a response goes before transit; R145: none goes while the gap is still being sent. -/
theorem test_grant_response :
    gives .grant
      { stage with
        inbound := [⟨.ready, [0x52]⟩]
        agent := { stage.agent with responses := [⟨7, 0, .addressed, false, [], some 5, false⟩] } }
      (fun t => t.hPort.tx.frame.map (fun x => (x.source, x.bytes.length)) == some (.response, 9)) = true
    ∧ gives .grant { fiveRecords with hPort := { stage.hPort with tx := { TxSide.fresh with gapLeft := 1 } } }
      (fun t => t.hPort.tx.frame == none) = true := by decide +kernel

/-- R1 and R13: after the sixteenth frame in a row the transmitter owes 32 IDLE symbols. -/
theorem test_h_transmission_complete :
    gives .hTransmissionComplete
      { stage with
        inbound := [⟨.inTransmission, [0x52]⟩]
        hPort := { stage.hPort with tx := ⟨some ⟨[0x52], .transit, 2⟩, 0, 0, 16, .symbol .idle⟩ } }
      (fun t => t.inbound == [] && t.hPort.tx.frame == none && t.hPort.tx.gapLeft == 32) = true := by decide +kernel

/-- R14: the oldest outbound frame goes out. -/
theorem test_f_transmit_start :
    gives .fTransmitStart { stage with agent := { stage.agent with outbound := [⟨[1], false⟩, ⟨[2], false⟩] } }
      (fun t => t.fPort.tx.frame == some ⟨[1], .outbound, 0⟩ && t.agent.outbound == [⟨[1], true⟩, ⟨[2], false⟩]) = true := by
  decide +kernel

/-- R14: the sent frame leaves the outbound queue. -/
theorem test_f_transmission_complete :
    gives .fTransmissionComplete
      { stage with
        agent := { stage.agent with outbound := [⟨[1], true⟩, ⟨[2], false⟩] }
        fPort := { stage.fPort with tx := { TxSide.fresh with frame := some ⟨[1], .outbound, 2⟩ } } }
      (fun t => t.agent.outbound == [⟨[2], false⟩] && t.fPort.tx.gapLeft == 2) = true := by decide +kernel

/-! ## States that meet the statements' hypotheses -/

/-- A receive side of a port put in a state. -/
def lineState (p : Port) (x : RxState) : State := stage.setRx p { upRx with state := x }

/-- The stage with a receive side of a port as given. -/
def listen (p : Port) (r : RxSide) : State := stage.setRx p r

/-- The stage with a transmission at the H port of this supplier. -/
def sending (source : Supplier) (s : State) : State :=
  { s with hPort := { s.hPort with tx := { TxSide.fresh with frame := some ⟨[0x52], source, 0⟩ } } }

theorem witness_StepTakesTheFrontCommand :
    { stage with pending := [Instr.grant, .tick false] }.pending = .grant :: [.tick false] := by decide +kernel

theorem witness_ByteTimeAdvancesTheTickGenerator :
    let s : State := { State.reset with elapsed := 15992 }
    s.pending = [] ∧ s.running = true ∧ s.hPort.line = [] ∧ s.fPort.line = []
      ∧ s.agent.settings.tickPeriod.clocks ≤ s.elapsed + 8 ∧ 15991 + 8 < s.agent.settings.tickPeriod.clocks
      ∧ s.tickDone = true ∧ s.hPort.rx.state = .down ∧ s.fPort.rx.state = .down ∧ s.hPort.tx.frame = none
      ∧ (∀ f ∈ s.inbound, f.state ≠ .pending) ∧ ∃ u, exec (.tick false) s = .next u :=
  ⟨rfl, by decide +kernel, rfl, rfl, by decide +kernel, by decide +kernel, by decide +kernel, rfl, rfl, rfl,
    by decide +kernel, ⟨_, rfl⟩⟩

theorem witness_ExecKeepsTheCommandQueue : ∃ t, exec .grant fiveRecords = .next t := ⟨_, rfl⟩

theorem witness_TickWorkIsFinishedFirst :
    { aging 3 with staleDue := [9] }.tickDone = false ∧ stage.tickDone = true ∧ (Instr.frameClaim).partOfTick = false := by
  decide +kernel

theorem witness_PowerOnHoldsThenReleases :
    { stage with power := .hold 31999 }.rstn = true ∧ { stage with power := .hold 0, rstn := false }.rstn = false
      ∧ stage.power = .running := by decide +kernel

theorem witness_PinResetAndItsRelease :
    (beforeForcing.tickDone = false ∧ { beforeForcing with commit := ⟨8, true, 1, 0⟩ }.tickDone = true
      ∧ { beforeForcing with commit := ⟨8, true, 1, 0⟩ }.generationLaw ∧ beforeForcing.running = true)
    ∧ (stage.tickDone = true ∧ stage.generationLaw ∧ stage.running = true ∧ 100 ≤ 100) ∧ 99 < 100
    ∧ ({ stage with rstn := false }.tickDone = true ∧ { stage with rstn := false }.power = .running)
    ∧ { stage with power := .hold 32000, rstn := false }.tickDone = true
    ∧ ({ stage with power := .hold 31999 }.tickDone = true ∧ { stage with power := .hold 31999 }.rstn = true)
    ∧ ({ stage with power := .hold 31999, rstn := false }.tickDone = true ∧ 31999 < 32000) := by decide +kernel

theorem witness_LineAcquisitionCommands :
    (State.reset.tickDone = true ∧ State.reset.running = true ∧ (State.reset.port .h).rx.state = .down
      ∧ (State.reset.port .f).rx.state = .down)
    ∧ ((lineState .f .interrupted).tickDone = true ∧ ((lineState .f .interrupted).port .f).rx.state = .interrupted)
    ∧ ((lineState .h .acquiring).tickDone = true ∧ (lineState .h .acquiring).hPort.rx.state = .acquiring)
    ∧ ((lineState .f .acquiring).tickDone = true ∧ (lineState .f .acquiring).fPort.rx.state = .acquiring)
    ∧ ((listen .f ⟨.acquiring, 31, 56, 0, .between⟩).tickDone = true
      ∧ ((listen .f ⟨.acquiring, 31, 56, 0, .between⟩).port .f).rx.state = .acquiring ∧ 31 + 1 = 32 ∧ 64 ≤ 56 + 8)
    ∧ (((listen .h ⟨.acquiring, 30, 48, 0, .between⟩).port .h).rx.state = .acquiring ∧ 30 + 1 ≠ 32 ∧ 48 + 8 < 64
      ∧ Symbol.start ≠ .idle) := by
  decide +kernel

theorem witness_LineInterruptionCommands :
    ((openF stage).tickDone = true ∧ ((openF stage).port .f).rx.state = .up ∧ ((openF stage).port .f).rx.receiving = true
      ∧ ((openF stage).port .h).rx.receiving = false)
    ∧ (lineState .f .interrupted).fPort.rx.state = .interrupted
    ∧ (((listen .h ⟨.up, 32, 56, 0, .between⟩).port .h).rx.state = .up
      ∧ ((listen .h ⟨.up, 32, 56, 0, .between⟩).port .h).rx.receiving = false ∧ 64 ≤ 56 + 8 ∧ 48 + 8 < 64)
    ∧ (((listen .f ⟨.interrupted, 32, 0, 159992, .between⟩).port .f).rx.state = .interrupted
      ∧ 160000 ≤ 159992 + 8 ∧ 159984 + 8 < 160000) := by decide +kernel

theorem witness_HeadLineDownIsAHeadLossReset :
    (lineState .h .interrupted).tickDone = true ∧ (lineState .h .interrupted).hPort.rx.state = .interrupted := by
  decide +kernel

theorem witness_FramesOpenAndAreAbandoned :
    (listening.tickDone = true ∧ listening.hPort.rx.state = .up)
    ∧ ({ openF stage with inbound := List.replicate 9 ⟨.ready, []⟩ }.fPort.rx.state = .up
      ∧ { openF stage with inbound := List.replicate 9 ⟨.ready, []⟩ }.inbound.length < 10)
    ∧ (stage.fPort.rx.state = .up ∧ stage.fPort.rx.receiving = false
      ∧ 10 ≤ { stage with inbound := List.replicate 10 ⟨.ready, []⟩ }.inbound.length)
    ∧ ((listening.port .h).rx.state = .up ∧ (listening.port .h).rx.receiving = true)
    ∧ (let s := listen .f ⟨.up, 32, 56, 0, .inFrame (List.replicate 64 1)⟩
      s.tickDone = true ∧ (s.port .f).rx.state = .up ∧ (s.port .f).rx.reception = .inFrame (List.replicate 64 1)
        ∧ 64 ≤ (List.replicate 64 (1 : Byte)).length ∧ 64 ≤ (s.port .f).rx.silence + 8)
    ∧ (let s := listen .h ⟨.up, 32, 48, 0, .inFrame (List.replicate 63 1)⟩
      (s.port .h).rx.state = .up ∧ (s.port .h).rx.reception = .inFrame (List.replicate 63 1)
        ∧ (List.replicate 63 (1 : Byte)).length < 64 ∧ (s.port .h).rx.silence + 8 < 64)
    ∧ ((listen .f ⟨.up, 32, 0, 0, .refused⟩).port .f).rx.receiving = false := by decide +kernel

theorem witness_FrameEndsJoinOrAreDiscarded :
    ((openF stage).tickDone = true ∧ (openF stage).fPort.rx.state = .up ∧ (openF stage).fPort.rx.receiving = true
      ∧ stage.fPort.rx.receiving = false)
    ∧ checkFrame (sampleFrameBytes 63 (List.replicate 16 (sample 15 0))) = some .sample
    ∧ checkFrame (reportFrameBytes 30 255 [ReportRecord.restarted 0 0]) = some .report
    ∧ checkFrame ((answer 1 0x0B .done false []).bytes 1) = some .response
    ∧ checkFrame [] = none ∧ checkFrame (requestFrameBytes 31 0 0 []) = some .request
    ∧ checkFrame (enumerationFrameBytes 1 31 1 0) = some .enumeration
    ∧ (listening.tickDone = true ∧ listening.hReceiving = true) := by decide +kernel

theorem witness_UnmetEventsChangeNothing :
    stage.tickDone = true ∧ (stage.port .h).rx.state ≠ .down ∧ (stage.port .f).rx.state ≠ .interrupted
      ∧ (stage.port .h).rx.state ≠ .acquiring ∧ (State.reset.port .h).rx.state ≠ .up
      ∧ stage.hPort.tx.frame = none ∧ stage.fPort.tx.frame = none := by decide +kernel

theorem witness_EnumerationTakesAndForwards :
    (listening.tickDone = true ∧ listening.hReceiving = true)
    ∧ (enumerationFieldsOk 1 30 0 = true ∧ (30 : Byte) ≠ 31 ∧ listening.agent.responses.length < 2
      ∧ listening.agent.outbound.length < 4)
    ∧ (enumerationFieldsOk 0 30 0 = true ∧ ¬((0 : Byte) = 1 ∨ listening.agent.address = none))
    ∧ enumerationFieldsOk 1 31 0 = true ∧ enumerationFieldsOk 1 1 1 = true
    ∧ 4 ≤ { listening with agent := { listening.agent with outbound := List.replicate 4 ⟨[], false⟩ } }.agent.outbound.length := by
  decide +kernel

theorem witness_RequestChecksComeFirst :
    (Instr.readSettings 32 1 []).request? = some (0x0B, 32, 1, []) ∧ requestFieldsOk 32 [] = false
    ∧ listening.addressed 5 [] ∧ listening.agent.responses.length < 2
    ∧ ((0 : Byte) = 0 ∨ 0x0D < (0 : Byte).toNat) ∧ 0x0D < (0x0E : Byte).toNat
    ∧ 2 ≤ (List.replicate 2 (answer 0 0 .done false [])).length
    ∧ operationOf 0x0E = none ∧ ((operationOf 0x08).map (·.operandLength)) = some 2 ∧ listening.addressed 5 [1]
    ∧ ((operationOf 0x0A).map (fun o => o.mutating [1])) = some true
    ∧ { listening with agent := { listening.agent with recent := [(9, .done)] } }.recentStatus 9 = some .done := by
  decide +kernel

theorem witness_OtherRequestsAreForwarded :
    (Instr.identify 6 1 [0]).request? = some (1, 6, 1, [0]) ∧ listening.tickDone = true ∧ listening.hReceiving = true
    ∧ requestFieldsOk 6 [0] = true ∧ listening.agent.address ≠ some 6
    ∧ (Instr.tripAck 31 1 [255]).request? = some (0x0A, 31, 1, [255]) ∧ requestFieldsOk 31 [255] = true
    ∧ listening.agent.address ≠ some 31 ∧ (operationOf 0x0A).map (·.operandLength) = some [(255 : Byte)].length
    ∧ (List.replicate 3 (OutboundFrame.mk [] false)).length < 4 ∧ 4 ≤ (List.replicate 4 (OutboundFrame.mk [] false)).length := by
  decide +kernel

/-- Entry 20 with a last value and a last event kind. -/
def spoken : State :=
  withEntry 20 on { RunState.initial with condition := .normal, lastValue := some (-1), lastKind := some .split } stage

theorem witness_ReadRequestsAnswerAndChangeNothing :
    listening.agent.responses.length < 2 ∧ listening.addressed 5 [0] ∧ listening.addressed 5 [95, 0] ∧ (95 : Byte).toNat < 96
    ∧ listening.addressed 5 [95, 1] ∧ listening.addressed 5 [96, 0] ∧ 96 ≤ (96 : Byte).toNat
    ∧ listening.addressed 5 [0, 2] ∧ 2 ≤ (2 : Byte).toNat ∧ listening.addressed 5 []
    ∧ (stage.agent.address = some 5 ∧ (5 : Byte).toNat ≤ 30 ∧ State.reset.agent.address = none)
    ∧ ((stage.entry 0).run.lastValue = none ∧ (stage.entry 0).run.lastKind = none)
    ∧ ((spoken.entry 20).run.lastValue = some (-1) ∧ (spoken.entry 20).run.lastKind = some .split) := by decide +kernel

theorem witness_ClearingRequestsClearAfterReading :
    listening.accepts 5 1 [1] ∧ listening.accepts 5 1 [2] ∧ 2 ≤ (2 : Byte).toNat ∧ listening.accepts 5 1 [95, 1]
    ∧ listening.accepts 5 1 [96, 1] ∧ listening.accepts 5 1 [95, 2] := by decide +kernel

theorem witness_WriteEntryStagesTheRecord :
    listening.accepts 5 1 (96 :: ConfigRecord.default.bytes) ∧ ConfigRecord.default.bytes.length = 24
    ∧ { listening with commit := ⟨1, true, 5, 0⟩ }.accepts 5 1 (95 :: ConfigRecord.default.bytes)
    ∧ listening.accepts 5 1 (95 :: { on with pair := true }.bytes)
    ∧ decodeRecord { on with pair := true }.bytes = some { on with pair := true } ∧ { on with pair := true }.valid 95 = false
    ∧ { on with pair := true }.valid 94 = true ∧ decodeRecord (List.replicate 24 0) = none
    ∧ listening.commit.pending = false ∧ listening.agent.recent.length < 4
    ∧ (let s : State := { listening with agent := { listening.agent with
          recent := [(9, .done), (8, .busy), (7, .range), (6, .done)] } }
      s.accepts 5 1 (95 :: ConfigRecord.default.bytes)
        ∧ s.agent.recent = (9, .done) :: [(8, .busy), (7, .range), (6, .done)]) := by decide +kernel

theorem witness_MapAddAddsTheKey :
    listening.accepts 5 1 [64, 0, 0] ∧ listening.accepts 5 1 [0, 16, 0] ∧ listening.accepts 5 1 [0, 0, 96]
    ∧ (keyed 63 15 7 listening).accepts 5 1 [63, 15, 95] ∧ ((keyed 63 15 7 listening).lookup 63 15).isSome = true
    ∧ (keyed 63 15 95 listening).accepts 5 1 [0, 0, 95] ∧ (keyed 63 15 95 listening).lookup 0 0 = none
    ∧ (keyed 63 15 95 listening).mapped 95 = true ∧ listening.accepts 5 1 [63, 15, 95]
    ∧ listening.lookup 63 15 = none ∧ listening.mapped 95 = false ∧ (listening.entry 95).run.waiting = false
    ∧ listening.groups.length = 4 := by
  decide +kernel

theorem witness_MapRemoveRemovesTheKey :
    listening.accepts 5 1 [63, 15] ∧ listening.lookup 63 15 = none
    ∧ (keyed 63 15 95 listening).accepts 5 1 [63, 15] ∧ (keyed 63 15 95 listening).lookup 63 15 = some 95
    ∧ (keyed 63 15 95 listening).groups.length = 4 := by decide +kernel

/-- Section 13.5 in PENDING, with a request waiting. -/
def inPending : State := openH { beforeForcing with commit := ⟨8, true, 3, 0⟩ }

/-- Entries 42 and 43 wait as one unit, and entry 70 waits beside them. -/
def pairPending : State :=
  ((staged 42 { on with pair := true } inPending).modifyRun 43 fun r => { r with waiting := true }).modifyRun 70
    fun r => { r with waiting := true }

theorem witness_MapChangeSwitchesAWaitingUnit :
    (inPending.accepts 5 1 [1, 0] ∧ inPending.table.length = 96 ∧ inPending.groups.length = 4
      ∧ inPending.lookup 1 0 = some 42 ∧ (inPending.entry 42).run.waiting = true ∧ inPending.commit.pending = true
      ∧ inPending.unit 42 = [42] ∧ inPending.waitsOnlyIn [42])
    ∧ (pairPending.accepts 5 1 [1, 3, 43] ∧ (43 : Byte).toNat = 43 ∧ (1 : Byte).toNat < 64 ∧ (3 : Byte).toNat < 16
      ∧ pairPending.lookup 1 3 = none ∧ pairPending.mapped 43 = false ∧ (pairPending.entry 43).run.waiting = true
      ∧ pairPending.unit 43 = [42, 43] ∧ pairPending.commit.pending = true ∧ ¬pairPending.waitsOnlyIn [42, 43]) := by
  decide +kernel

theorem witness_MapChangeSwitchesAWaitingUnit_map : inPending.mapLaw ∧ pairPending.mapLaw := by decide +kernel

theorem witness_CommitAcceptsAGeneration :
    (inPending.accepts 5 1 [0, 0] ∧ inPending.commit.pending = true)
    ∧ beforeCommit.accepts 5 1 [0, 0] ∧ beforeCommit.accepts 5 1 [255, 255] ∧ beforeCommit.commit.pending = false
    ∧ beforeCommit.table.length = 96 ∧ beforeCommit.groups.length = 4 ∧ (∀ x ∈ beforeCommit.table, x.run.waiting = false)
    ∧ (beforeCommit.entry 42).live ≠ (beforeCommit.entry 42).staging ∧ beforeCommit.mapped 42 = true
    ∧ (beforeCommit.entry 42).run.condition ≠ .idle ∧ (beforeCommit.entry 42).run.position ≠ 0
    ∧ (beforeCommit.entry 0).live = (beforeCommit.entry 0).staging := by decide +kernel

/-- Two unacknowledged frames. -/
def twoFrames : State :=
  { listening with report := ⟨[], [⟨8, [ReportRecord.restarted 0 0], 1, 0, false, false⟩,
      ⟨9, [ReportRecord.restarted 0 0], 1, 0, false, false⟩], 10⟩ }

theorem witness_ReportAckIsCumulative :
    twoFrames.accepts 5 1 [9]
    ∧ (∃ older f, twoFrames.report.unacked = older ++ f :: [] ∧ f.sequence = 9 ∧ ∀ x ∈ older, x.sequence ≠ 9)
    ∧ twoFrames.accepts 5 1 [10] ∧ (∀ x ∈ twoFrames.report.unacked, x.sequence ≠ 10) := by
  refine ⟨by decide +kernel, ⟨[⟨8, [ReportRecord.restarted 0 0], 1, 0, false, false⟩], _, rfl, rfl, ?_⟩, ?_, ?_⟩ <;>
    decide +kernel

theorem witness_TripAckReleasesLatchedGroups :
    groupsOfThreeStates.accepts 5 1 [3] ∧ groupsOfThreeStates.accepts 5 1 [4] ∧ groupsOfThreeStates.accepts 5 1 [254]
    ∧ groupsOfThreeStates.accepts 5 1 [255] ∧ groupsOfThreeStates.groups.length = 4 := by decide +kernel

theorem witness_WriteSettingsStoresTheRecord :
    listening.accepts 5 1 [4, 1, 0, 0, 0] ∧ decodeSettings [4, 1, 0, 0, 0] = none
    ∧ inPending.accepts 5 1 [3, 1, 15, 2, 255] ∧ (decodeSettings [3, 1, 15, 2, 255]).map (·.tickPeriod) = some .ms100
    ∧ inPending.agent.settings.tickPeriod ≠ .ms100 ∧ inPending.accepts 5 1 [1, 1, 15, 2, 255]
    ∧ (decodeSettings [1, 1, 15, 2, 255]).map (·.tickPeriod) = some inPending.agent.settings.tickPeriod := by decide +kernel

theorem witness_AddressedResetIsARequestReset :
    inPending.accepts 5 1 [] ∧ inPending.generationLaw := by decide +kernel

theorem witness_EvaluatedValueSaturatesToTheWidth :
    { on with offset := 1 }.inWidth (32766 + 1) = true ∧ 32767 < (32767 : Int) + { on with offset := 1 }.offset
    ∧ (-32768 : Int) + { on with offset := -1 }.offset < -32768
    ∧ 2147483647 < (2147483647 : Int) + { on with pair := true, offset := 1 }.offset
    ∧ (-2147483648 : Int) + { on with pair := true, offset := -1 }.offset < -2147483648 := by decide +kernel

/-- A record with both checks on. -/
def window : ConfigRecord :=
  { on with
    highCheck := true, lowCheck := true, high := 100, low := -100, hysteresis := 100, enterPersistence := 2
    returnPersistence := 2 }

theorem witness_WindowTestsAreExact :
    window.above 100 = false ∧ window.below (-100) = false ∧ window.valid 95 = true ∧ window.clearHigh 0 = true
    ∧ window.clearLow 0 = true ∧ window.high - window.hysteresis = 0
    ∧ { window with high := -32768, hysteresis := 1 }.inWidth (-32768) = true
    ∧ { window with high := -32768, hysteresis := 1 }.high - 1 < ConfigRecord.widthMin window
    ∧ { window with low := 32767, hysteresis := 1 }.inWidth 32767 = true
    ∧ ConfigRecord.widthMax window < { window with low := 32767, hysteresis := 1 }.low + 1 := by decide +kernel

theorem witness_PersistenceCountsConsecutiveArrivals :
    (∀ v ∈ [(101 : Int)], window.above v = true) ∧ [(101 : Int)].length < window.enterPersistence
    ∧ (∀ v ∈ [(101 : Int), 101], window.above v = true) ∧ [(101 : Int), 101].length = window.enterPersistence
    ∧ (∀ v ∈ [(-101 : Int), -101], window.below v = true ∧ window.above v = false)
    ∧ (∀ v ∈ [(0 : Int), -101], window.clearHigh v = true) ∧ (∀ v ∈ [(0 : Int), 101], window.clearLow v = true)
    ∧ [(0 : Int)].length < window.returnPersistence
    ∧ window.above 100 = false ∧ window.below (-100) = false ∧ window.below 101 = false ∧ window.clearHigh 1 = false
    ∧ window.clearLow (-1) = false := by decide +kernel

theorem witness_JudgementKeepsTheCountRanges :
    1 ≤ window.enterPersistence ∧ 1 ≤ window.returnPersistence ∧ window.countOk .rising 1 = true
    ∧ window.countOk .lowClearing 1 = true ∧ window.countOk .stale 0 = true := by decide +kernel

theorem witness_ScheduleKeepsTheDutyOfEachPeriod :
    1 ≤ ConfigRecord.default.period ∧ { on with duty := 0 }.duty = 0 ∧ { on with period := 255, duty := 255 }.period ≤ 255
    ∧ (0 < { on with period := 2 }.duty ∧ { on with period := 2 }.duty ≤ 1)
    ∧ RunState.initial.position = 0 ∧ RunState.initial.condition = .idle ∧ RunState.initial.condition ≠ .stale := by
  decide +kernel

/-- A frame claim of the two halves of a pair whose lower entry is 20. -/
def halves : FrameClaim :=
  ⟨withEntry 20 { on with pair := true } RunState.initial stage, [some (sample 2 7), some (sample 3 8)], [], false⟩

theorem witness_MatchedHalvesShareOneDecision :
    0 ≠ 1 ∧ halves.samples[0]? = some (some (sample 2 7)) ∧ halves.samples[1]? = some (some (sample 3 8)) := by decide +kernel

theorem witness_UntouchedFrameBecomesReady :
    (stage.tickDone = true ∧ stage.tripLaw ∧ stage.groups.length = 4
      ∧ (∀ x ∈ frameSamples (sampleFrameBytes 3 [sample 1 5]),
          stage.roleOf (frameNode (sampleFrameBytes 3 [sample 1 5])) x = .untouched)
      ∧ (∀ f ∈ [InboundFrame.mk .ready []], f.state ≠ .pending))
    ∧ (stage.claimFrame (sampleFrameBytes 3 [sample 1 5])).changed = false
    ∧ (let c := (entry17 .rising 1 1).claimFrame (sampleFrameBytes 1 [sample 6 1020, sample 9 0])
      c.changed = true ∧ c.samples.filterMap id ≠ [])
    ∧ (let c := (entry17 .rising 1 1).claimFrame (sampleFrameBytes 1 [sample 6 1020])
      c.changed = true ∧ c.samples.filterMap id = [])
    ∧ (Arrival.split 20 0).entry ∈ (FrameClaim.mk stage [] [20, 21] false).closed := by decide +kernel

/-- The rows of Table 31: entries 20 and 21 a pair, 30 single, 31 disabled, 41 an orphan upper half. -/
theorem witness_UntouchedFrameBecomesReady_roles :
    let s := keyed 1 2 20 <| keyed 1 3 21 <| keyed 1 4 30 <| keyed 1 5 31 <| keyed 1 7 41
      <| withEntry 20 { on with pair := true } RunState.initial <| withEntry 30 on RunState.initial
      <| withEntry 40 { on with pair := true } RunState.initial stage
    [2, 3, 4, 5, 7, 8].map (fun c => s.roleOf 1 (sample c 0))
        = [.lower 20, .upper 20, .single 30, .untouched, .untouched, .untouched]
      ∧ s.roleOf 1 ((sample 4 0).tagged .high) = .untouched ∧ s.lookup 1 7 = some 41 ∧ s.mapped 40 = false
      ∧ s.lookup 1 8 = none ∧ (s.entry 31).live.enable = false := by decide +kernel

theorem witness_SingleSampleIsQualified :
    let s := arrived 1 [sample 6 1030] (entry17 .rising 2 0)
    s.tickDone = true ∧ s.table.length = 96 ∧ s.inbound = [⟨.pending, sampleFrameBytes 1 [sample 6 1030]⟩]
    ∧ s.groups.length = 4
    ∧ s.lookup 1 (sample 6 1030).channel = some 17 ∧ (sample 6 1030).qualified = false ∧ (sample 6 1030).valid = true
    ∧ s.pairedUpper 17 = false ∧ (s.entry 17).live.enable = true ∧ (s.entry 17).live.pair = false
    ∧ (s.entry 17).run.waiting = false := by decide +kernel

/-- Arrivals that are evaluated: a valid and an invalid single sample, and a pair. -/
theorem witness_SingleSampleIsQualified_arrivals :
    (FrameClaim.mk stage [some (sample 6 1030)] [] false).evaluates (.single 17 0) 17 [0] (some 1030)
    ∧ (FrameClaim.mk stage [some ⟨6, 1030⟩] [] false).evaluates (.single 17 0) 17 [0] none
    ∧ halves.evaluates (.matched 20 0 1) 20 [0, 1] (some 524295)
    ∧ halves.state.table.length = 96 ∧ (halves.state.entry 20).run.waiting = false ∧ 20 ∉ halves.closed := by
  refine ⟨.inl ⟨0, sample 6 1030, rfl, rfl, rfl, by decide +kernel⟩, .inl ⟨0, ⟨6, 1030⟩, rfl, rfl, rfl, by decide +kernel⟩,
    .inr ⟨0, 1, sample 2 7, sample 3 8, by decide, rfl, rfl, rfl, rfl, by decide +kernel⟩, ?_, ?_, ?_⟩ <;> decide +kernel

/-- Entry 42 waits at a position of its period of 10, and a sample for it has arrived. -/
def waitingAt (position : Nat) : State :=
  arrived 1 [sample 0 5] (({ beforeForcing with commit := ⟨8, true, 3, 0⟩ } : State).modifyRun 42
    fun r => { r with position := position })

theorem witness_BoundarySwitchesAWaitingEntry :
    (waitingAt 9).tickDone = true ∧ (waitingAt 9).table.length = 96 ∧ (waitingAt 9).groups.length = 4
    ∧ (waitingAt 9).inbound = [⟨.pending, sampleFrameBytes 1 [sample 0 5]⟩]
    ∧ (waitingAt 9).lookup 1 (sample 0 5).channel = some 42 ∧ (sample 0 5).qualified = false
    ∧ (waitingAt 9).pairedUpper 42 = false ∧ ((waitingAt 9).entry 42).live.enable = true
    ∧ ((waitingAt 9).entry 42).live.pair = false ∧ (waitingAt 9).unit 42 = [42]
    ∧ ((waitingAt 9).entry 42).run.waiting = true
    ∧ ((waitingAt 9).entry 42).run.position + 1 = ((waitingAt 9).entry 42).live.period
    ∧ ((waitingAt 8).entry 42).run.position + 1 < ((waitingAt 8).entry 42).live.period := by decide +kernel

/-- An arrival at the boundary of a two-entry unit that is not the last to wait, and at that of the last waiting entry. -/
theorem witness_BoundarySwitchesAWaitingEntry_unit :
    (let c : FrameClaim := ⟨pairPending.modifyRun 42 fun r => { r with position := 9 }, [some (sample 0 5)], [], false⟩;
      c.evaluates (.single 42 0) 42 [0] (some 5) ∧ c.state.table.length = 96 ∧ (42 ∉ c.closed)
        ∧ (c.state.entry 42).run.waiting = true ∧ c.state.unitUpper 42 = false ∧ c.state.unit 42 = [42, 43]
        ∧ (c.state.entry 42).run.position + 1 = (c.state.entry 42).live.period
        ∧ c.state.commit.pending = true ∧ ¬c.state.waitsOnlyIn [42, 43]
        ∧ (c.state.entry 42).staging.pair ≠ (c.state.entry 42).live.pair)
    ∧ ((waitingAt 9).waitsOnlyIn [42] ∧ (waitingAt 9).commit.pending = true
      ∧ ((waitingAt 9).entry 42).staging.enable = ((waitingAt 9).entry 42).live.enable
      ∧ ((waitingAt 9).entry 42).staging.pair = ((waitingAt 9).entry 42).live.pair) := by
  refine ⟨⟨.inl ⟨0, sample 0 5, rfl, rfl, rfl, by decide +kernel⟩, ?_, ?_, ?_, ?_, ?_, ?_, ?_, ?_, ?_⟩, ?_⟩ <;>
    decide +kernel

/-- An arrival at the upper entry of a waiting unit, which its own position 0 follows. -/
theorem witness_BoundarySwitchesAWaitingEntry_upper :
    let c : FrameClaim := ⟨pairPending, [some (sample 1 5)], [], false⟩
    c.evaluates (.single 43 0) 43 [0] (some 5) ∧ c.state.table.length = 96 ∧ (43 ∉ c.closed)
      ∧ (c.state.entry 43).run.waiting = true ∧ c.state.unitUpper 43 = true
      ∧ (c.state.entry 43).run.position + 1 = (c.state.entry 43).live.period := by
  refine ⟨.inl ⟨0, sample 1 5, rfl, rfl, rfl, by decide +kernel⟩, ?_, ?_, ?_, ?_, ?_⟩ <;> decide +kernel

theorem witness_TickReachesItsThreeOwners :
    (aging 2).tickDone = true ∧ (aging 2).running = true ∧ (aging 2).table.length = 96 ∧ (aging 2).watched 9 = true
    ∧ ¬({ aging 2 with commit := ⟨8, true, 2, 0⟩ }.commit.pending = true
        ∧ { aging 2 with commit := ⟨8, true, 2, 0⟩ }.commit.deadline ≤ 1)
    ∧ { stage with rstn := false }.tickDone = true ∧ { stage with rstn := false }.running = false
    ∧ (let s : State := { beforeForcing with commit := ⟨8, true, 1, 0⟩ }
      s.tickDone = true ∧ s.running = true ∧ s.table.length = 96 ∧ s.groups.length = 4 ∧ s.commit.deadline ≤ 1
        ∧ (s.entry 42).run.waiting = true ∧ s.watched 42 = true) := by decide +kernel

theorem witness_StaleEntryRaisesStale :
    let s : State := { aging 3 with staleDue := [9, 10] }
    s.staleDue = 9 :: [10] ∧ (∀ i ∈ [10], 9 < i) ∧ s.staleReached 9 = true ∧ s.table.length = 96 ∧ s.groups.length = 4
    ∧ { aging 3 with staleDue := [9] }.staleReached 9 = true := by decide +kernel

theorem witness_DeadlineForcesEveryWaitingEntry :
    beforeForcing.staleDue = [] ∧ beforeForcing.commit.pending = true ∧ beforeForcing.commit.deadline = 0
    ∧ beforeForcing.table.length = 96 ∧ beforeForcing.groups.length = 4 ∧ (beforeForcing.entry 42).run.waiting = true := by
  decide +kernel

theorem witness_RetryExpiryRetriesOrDiscards :
    (∃ f newer, (expired20 3).report.unacked = [] ++ f :: newer ∧ f.expired = true ∧ f.sequence = 20
      ∧ (∀ x ∈ newer, x.sequence ≠ f.sequence) ∧ f.sendCount < 1 + (expired20 3).agent.settings.retryLimit)
    ∧ ∃ f newer, (expired20 4).report.unacked = [] ++ f :: newer ∧ f.expired = true ∧ f.sequence = 20
      ∧ (∀ x ∈ newer, x.sequence ≠ f.sequence) ∧ 1 + (expired20 4).agent.settings.retryLimit ≤ f.sendCount := by
  refine ⟨⟨_, _, rfl, rfl, rfl, ?_, ?_⟩, ⟨_, _, rfl, rfl, rfl, ?_, ?_⟩⟩ <;> decide +kernel

/-- The queue of section 13.4: entries 50 and 51 ROUTINE, then 52 to 80 URGENT. -/
def fullQueue : List ReportRecord :=
  (List.range 31).map fun i => entryRecord (50 + i) (if i < 2 then .stale else .enterHigh) (decide (2 ≤ i)) none

theorem witness_EventPlacementAndLoss :
    (∃ older r newer, fullQueue = older ++ r :: newer ∧ r.subject = .entry 80 ∧ ∀ x ∈ older ++ newer, x.subject ≠ .entry 80)
    ∧ generalRecords (fullQueue.drop 1) < 31 ∧ (∀ x ∈ fullQueue, x.subject ≠ .entry 81)
    ∧ 31 ≤ generalRecords fullQueue ∧ (fullQueue.head?.map (·.urgent)) = some false
    ∧ (∀ x ∈ fullQueue.map (fun r => { r with urgent := true }), x.urgent = true)
    ∧ (∀ x ∈ fullQueue, x.subject ≠ .loss)
    ∧ (∀ x ∈ fullQueue ++ [], x.subject ≠ .loss) ∧ [(2 : Nat), 1, 4] ≠ [] := by
  refine ⟨⟨fullQueue.take 30, entryRecord 80 .enterHigh true none, [], ?_, ?_, ?_⟩, ?_, ?_, ?_, ?_, ?_, ?_, ?_, ?_⟩ <;>
    decide +kernel

/-- A promoted ROUTINE claim beside a response and a READY frame. -/
def crowded (promotion : Nat) : State :=
  { stage with
    promotion := promotion
    report := ⟨[entryRecord 20 .stale false none], [], 0⟩
    inbound := [⟨.ready, [0x52]⟩]
    agent := { stage.agent with responses := [answer 7 0x0B .done false []] } }

theorem witness_ArbiterChoosesByTable63 :
    fiveRecords.urgentClaim = true
    ∧ ((crowded 8).urgentClaim = false ∧ (crowded 8).promotion = 8 ∧ (crowded 8).routineClaim = true)
    ∧ ((crowded 7).urgentClaim = false ∧ (crowded 7).promotion ≠ 8 ∧ (crowded 7).responseClaim = true)
    ∧ ({ crowded 7 with agent := stage.agent }.responseClaim = false
      ∧ { crowded 7 with agent := stage.agent }.transitClaim = true)
    ∧ ({ crowded 7 with agent := stage.agent, inbound := [] }.transitClaim = false
      ∧ { crowded 7 with agent := stage.agent, inbound := [] }.responseClaim = false) := by decide +kernel

theorem witness_GrantNeedsItsConditions :
    (stage.tickDone = true ∧ stage.choice = none ∧ { stage with rstn := false }.running = false
      ∧ (sending .transit stage).hPort.tx.frame ≠ none ∧ (lineState .h .interrupted).hPort.rx.state ≠ .up
      ∧ (TxSide.mk none 1 1 5 (.symbol .idle)).gapLeft ≠ 0 ∧ (TxSide.mk none 0 31 16 (.symbol .idle)).longGap = 16
      ∧ (TxSide.mk none 0 31 16 (.symbol .idle)).idleRun < 32)
    ∧ ({ crowded 7 with agent := State.reset.agent }.agent.address = none
      ∧ { crowded 7 with agent := State.reset.agent }.hPort.tx.frame = none
      ∧ gives .grant { crowded 7 with agent := State.reset.agent } (fun t => t.hPort.tx.frame.isSome) = true) := by
  decide +kernel

theorem witness_GrantSendsTransitOrResponse :
    let s : State := { crowded 7 with agent := stage.agent }
    (s.tickDone = true ∧ s.grantPossible = true ∧ s.choice = some .transit ∧ s.inbound = ⟨.ready, [0x52]⟩ :: [])
    ∧ (crowded 7).tickDone = true ∧ (crowded 7).grantPossible = true ∧ (crowded 7).choice = some .response
    ∧ (crowded 7).agent.responses = answer 7 0x0B .done false [] :: [] ∧ (crowded 7).agent.address = some 5 := by
  decide +kernel

/-- Frame 8 is due, and frame 9 is not. -/
def dueFrame : State :=
  { stage with report := ⟨[], [⟨8, [ReportRecord.restarted 0 0], 1, 0, true, false⟩,
      ⟨9, [entryRecord 20 .stale false none], 1, 0, false, false⟩], 10⟩ }

theorem witness_GrantSendsReports :
    (fiveRecords.tickDone = true ∧ fiveRecords.grantPossible = true ∧ fiveRecords.choice = some .urgent
      ∧ fiveRecords.agent.address = some 5 ∧ ∀ f ∈ fiveRecords.report.unacked, f.due = true → f.urgent ≠ true)
    ∧ ((crowded 8).grantPossible = true ∧ (crowded 8).choice = some .routine)
    ∧ (dueFrame.tickDone = true ∧ dueFrame.grantPossible = true ∧ dueFrame.choice = some .urgent
      ∧ dueFrame.agent.address = some 5
      ∧ dueFrame.report.unacked = [] ++ ⟨8, [ReportRecord.restarted 0 0], 1, 0, true, false⟩
          :: [⟨9, [entryRecord 20 .stale false none], 1, 0, false, false⟩]
      ∧ (ReportFrame.mk 8 [ReportRecord.restarted 0 0] 1 0 true false).urgent = true) := by decide +kernel

theorem witness_TransmissionsStartAndComplete :
    ((sending .transit stage).tickDone = true ∧ (sending .transit stage).hPort.tx.frame = some ⟨[0x52], .transit, 0⟩)
    ∧ { sending .transit stage with inbound := [⟨.inTransmission, [0x52]⟩] }.inbound = ⟨.inTransmission, [0x52]⟩ :: []
    ∧ (sending .response stage).hPort.tx.frame = some ⟨[0x52], .response, 0⟩
    ∧ (sending (.report 3) stage).hPort.tx.frame = some ⟨[0x52], .report 3, 0⟩
    ∧ (stage.running = true ∧ stage.fPort.tx.frame = none
      ∧ { stage with agent := { stage.agent with outbound := [⟨[1], false⟩] } }.agent.outbound = ⟨[1], false⟩ :: []
      ∧ stage.fPort.tx.gapLeft = 0 ∧ stage.fPort.tx.longGap ≠ 16 ∧ (TxSide.mk none 2 0 3 (.symbol .stop)).gapLeft ≠ 0)
    ∧ (∀ f ∈ [InboundFrame.mk .ready [0x52]].head?, f.state ≠ .inTransmission)
    ∧ (∀ r ∈ [answer 7 0x0B .done false []].head?, r.granted = false)
    ∧ (∀ f ∈ [OutboundFrame.mk [1] false].head?, f.taken = false)
    ∧ { stage with fPort := { stage.fPort with tx := { TxSide.fresh with frame := some ⟨[1], .outbound, 3⟩ } } }.tickDone
      = true := by decide +kernel

theorem witness_TransmitterSendsStartBytesEnd :
    ((sending .transit stage).port .h).tx.frame = some ⟨[0x52], .transit, 0⟩ ∧ [(0x52 : Byte)][0]? = some 0x52
    ∧ (stage.port .f).tx.frame = none := by decide +kernel

theorem witness_TripLineFollowsGroupAndPolarity :
    3 < 4 ∧ stage.running = true ∧ { stage with rstn := false }.running = false
    ∧ stage.agent.settings.assertedHigh 3 = false
    ∧ { stage.agent.settings with trip := 0x80 }.assertedHigh 3 = true := by decide +kernel

theorem witness_RecordsReadBackAsWritten :
    decodeRecord window.bytes = some window ∧ window.stored 95 ∧ window.duty ≤ 255 ∧ window.staleLimit ≤ 65535
    ∧ (∀ g ∈ window.tripGroup, g < 4) ∧ decodeSettings [3, 255, 15, 2, 255] = some ⟨.ms100, 255, 15, .urgent, 255⟩ := by
  decide +kernel

theorem witness_CrcOfAnIntactFrameIsZero : 3 ≤ (withCrc [0x51]).length := by decide +kernel

theorem witness_FormedFramesAreWellFormed :
    (63 : Byte).toNat < 64 ∧ (List.replicate 16 (sample 15 0)).length ≤ 16 ∧ 1 ≤ (30 : Byte).toNat ∧ (30 : Byte).toNat ≤ 30
    ∧ (∀ r ∈ [entryRecord 95 .enterHigh true (some 1), ReportRecord.restarted 3 6],
        r.wf ∧ ∀ e, r.subject = .entry e → e < 96)
    ∧ (answer 1 1 .done false (List.replicate 55 0)).payload.length ≤ 55 ∧ requestFieldsOk 31 (List.replicate 57 0) = true
    ∧ enumerationFieldsOk 1 31 1 = true := by
  refine ⟨by decide +kernel, by decide +kernel, by decide +kernel, by decide +kernel, ?_, by decide +kernel, by decide +kernel,
    by decide +kernel⟩
  intro r hr
  simp only [List.mem_cons, List.not_mem_nil, or_false] at hr
  rcases hr with rfl | rfl
  · exact ⟨by decide +kernel, fun e he => by cases he; decide +kernel⟩
  · exact ⟨by decide +kernel, fun e he => by cases he⟩

theorem witness_StepKeepsTheLaws :
    (State.reset.reportLaw ∧ State.reset.listLaw ∧ State.reset.addressLaw ∧ State.reset.agentLaw ∧ State.reset.promotionLaw
      ∧ State.reset.portLaw ∧ State.reset.inboundLaw ∧ State.reset.generationLaw ∧ State.reset.tableLaw
      ∧ State.reset.tripLaw)
    ∧ ∃ t, step State.reset = .next t := by
  refine ⟨⟨?_, ?_, ?_, ?_, ?_, ?_, ?_, ?_, ?_, ?_⟩, ⟨_, rfl⟩⟩ <;> decide +kernel

/-- The laws hold of states that are well into a run, too. -/
theorem witness_StepKeepsTheLaws_in_a_run :
    (inPending.generationLaw ∧ inPending.tableLaw ∧ inPending.tripLaw ∧ twoFrames.listLaw ∧ fiveRecords.reportLaw
      ∧ (crowded 8).promotionLaw ∧ listening.portLaw ∧ listening.inboundLaw ∧ twoFrames.agentLaw ∧ twoFrames.addressLaw) := by
  refine ⟨?_, ?_, ?_, ?_, ?_, ?_, ?_, ?_, ?_, ?_⟩ <;> decide +kernel

end Sys2Proof.Tests
end

section
/-! SUPPORT. The four window tests of R54 as arithmetic over the record's checks, limits and hysteresis, how they exclude one
another, and what a valid record adds. -/

namespace Sys2Proof.Machine

open Sys2Proof

/-! ## Each test, said once -/

theorem ConfigRecord.above_iff (r : ConfigRecord) (v : Int) :
    r.above v = true ↔ r.highCheck = true ∧ r.high < v := by
  simp [ConfigRecord.above]

theorem ConfigRecord.below_iff (r : ConfigRecord) (v : Int) :
    r.below v = true ↔ r.lowCheck = true ∧ v < r.low := by
  simp [ConfigRecord.below]

theorem ConfigRecord.clearHigh_iff (r : ConfigRecord) (v : Int) :
    r.clearHigh v = true ↔ r.highCheck = false ∨ v ≤ r.high - r.hysteresis := by
  simp [ConfigRecord.clearHigh]

theorem ConfigRecord.clearLow_iff (r : ConfigRecord) (v : Int) :
    r.clearLow v = true ↔ r.lowCheck = false ∨ r.low + r.hysteresis ≤ v := by
  simp [ConfigRecord.clearLow]

theorem ConfigRecord.inWidth_iff (r : ConfigRecord) (v : Int) :
    r.inWidth v = true ↔ r.widthMin ≤ v ∧ v ≤ r.widthMax := by
  simp [ConfigRecord.inWidth]

/-- A value inside, neither above nor below, leaves NORMAL as it is (R54, R55). -/
theorem ConfigRecord.judge_normal_of_inside (r : ConfigRecord) (k : Nat) (v : Int) (ha : r.above v = false)
    (hb : r.below v = false) : r.judge .normal k v = ⟨.normal, 0, []⟩ := by
  simp [ConfigRecord.judge, ConfigRecord.judgeNormal, ha, hb]

/-! ## Tests that exclude one another -/

/-- The hysteresis is never negative, so a value at most H − Y is not above H. -/
theorem ConfigRecord.above_eq_false_of_clearHigh (r : ConfigRecord) (v : Int) (h : r.clearHigh v = true) :
    r.above v = false := by
  rw [Bool.eq_false_iff, ne_eq, r.above_iff]
  rintro ⟨hcheck, habove⟩
  rcases (r.clearHigh_iff v).mp h with hoff | hle
  · simp [hoff] at hcheck
  · omega

/-- The mirror of `above_eq_false_of_clearHigh` at the low limit. -/
theorem ConfigRecord.below_eq_false_of_clearLow (r : ConfigRecord) (v : Int) (h : r.clearLow v = true) :
    r.below v = false := by
  rw [Bool.eq_false_iff, ne_eq, r.below_iff]
  rintro ⟨hcheck, hbelow⟩
  rcases (r.clearLow_iff v).mp h with hoff | hle
  · simp [hoff] at hcheck
  · omega

/-- Where H − Y lies below the width, no value of the width is clear-high (R54, R63). -/
theorem ConfigRecord.clearHigh_eq_false_of_lt_widthMin (r : ConfigRecord) (v : Int) (hcheck : r.highCheck = true)
    (hv : r.inWidth v = true) (hY : r.high - r.hysteresis < r.widthMin) : r.clearHigh v = false := by
  obtain ⟨hmin, -⟩ := (r.inWidth_iff v).mp hv
  rw [Bool.eq_false_iff, ne_eq, r.clearHigh_iff]
  rintro (hoff | hle)
  · simp [hcheck] at hoff
  · omega

/-- Where L + Y lies above the width, no value of the width is clear-low (R54, R63). -/
theorem ConfigRecord.clearLow_eq_false_of_widthMax_lt (r : ConfigRecord) (v : Int) (hcheck : r.lowCheck = true)
    (hv : r.inWidth v = true) (hY : r.widthMax < r.low + r.hysteresis) : r.clearLow v = false := by
  obtain ⟨-, hmax⟩ := (r.inWidth_iff v).mp hv
  rw [Bool.eq_false_iff, ne_eq, r.clearLow_iff]
  rintro (hoff | hle)
  · simp [hcheck] at hoff
  · omega

/-! ## What a valid record adds -/

/-- The last condition of R29: with both checks on, the limits are in order and twice the hysteresis fits between them. -/
theorem ConfigRecord.window_of_valid (r : ConfigRecord) (e : Nat) (h : r.valid e = true) (hh : r.highCheck = true)
    (hl : r.lowCheck = true) : r.low < r.high ∧ 2 * (r.hysteresis : Int) ≤ r.high - r.low := by
  unfold ConfigRecord.valid at h
  obtain ⟨-, hwindow⟩ := Bool.and_eq_true_iff.mp h
  simpa [hh, hl] using hwindow

theorem ConfigRecord.not_above_and_below_of_valid (r : ConfigRecord) (e : Nat) (v : Int) (h : r.valid e = true) :
    ¬(r.above v = true ∧ r.below v = true) := by
  rw [r.above_iff, r.below_iff]
  rintro ⟨⟨hh, habove⟩, hl, hbelow⟩
  obtain ⟨horder, -⟩ := r.window_of_valid e h hh hl
  omega

/-- With both checks on, H − Y is at or above L + Y. -/
theorem ConfigRecord.clear_limits_meet_of_valid (r : ConfigRecord) (e : Nat) (h : r.valid e = true)
    (hh : r.highCheck = true) (hl : r.lowCheck = true) : r.low + r.hysteresis ≤ r.high - r.hysteresis := by
  obtain ⟨-, hroom⟩ := r.window_of_valid e h hh hl
  omega

/-- The two clear regions of a window leave no gap: what exceeds H − Y has passed L + Y. -/
theorem ConfigRecord.clearHigh_or_clearLow_of_le (r : ConfigRecord) (v : Int)
    (h : r.low + r.hysteresis ≤ r.high - r.hysteresis) : r.clearHigh v = true ∨ r.clearLow v = true := by
  rw [r.clearHigh_iff, r.clearLow_iff]
  rcases le_or_gt v (r.high - r.hysteresis) with hle | hgt
  · exact .inl (.inr hle)
  · exact .inr (.inr (h.trans hgt.le))

/-! ## The obligation -/

/-- Settles O30: each test is its arithmetic, and the exclusions and the valid record's laws follow from it. -/
theorem windowTestsAreExact : Obligations.WindowTestsAreExact := by
  intro r v
  refine ⟨r.above_iff v, r.below_iff v, r.clearHigh_iff v, r.clearLow_iff v, r.judge_normal_of_inside 0 v,
    fun e => r.not_above_and_below_of_valid e v, r.above_eq_false_of_clearHigh v, r.below_eq_false_of_clearLow v,
    fun e hvalid hh hl => ?_, r.clearHigh_eq_false_of_lt_widthMin v, r.clearLow_eq_false_of_widthMax_lt v⟩
  have hmeet := r.clear_limits_meet_of_valid e hvalid hh hl
  exact ⟨hmeet, r.clearHigh_or_clearLow_of_le v hmeet⟩

end Sys2Proof.Machine
end


section
/-! SUPPORT. The two levels of a trip line by the group's state and polarity (R140, Table 59), its level under a reset (R141), and
where the settings record holds the polarity. -/

namespace Sys2Proof.Machine

open Sys2Proof

theorem GroupState.ne_clear_iff (x : GroupState) : x ≠ .clear ↔ x = .asserted ∨ x = .latched := by
  cases x <;> decide

/-- The polarity of group g is bit 4 + g of the settings record's trip byte (Table 20). -/
theorem Settings.assertedHigh_iff (x : Settings) (g : Nat) :
    x.assertedHigh g = true ↔ x.trip.toNat / 2 ^ (4 + g) % 2 = 1 := by
  simp [Settings.assertedHigh, BitVec.getLsbD, Nat.testBit_eq_decide_div_mod_eq]

/-- While the device runs, a line asserted low is low exactly where its group is not CLEAR (first row of Table 59). -/
theorem State.tripLine_eq_low_iff (s : State) (g : Nat) (hrun : s.running = true)
    (hpol : s.agent.settings.assertedHigh g = false) : s.tripLine g = .low ↔ (s.group g).state ≠ .clear := by
  simp [State.tripLine, hrun, hpol]

/-- While the device runs, a line asserted high is high exactly where its group is not CLEAR (second row of Table 59). -/
theorem State.tripLine_eq_high_iff (s : State) (g : Nat) (hrun : s.running = true)
    (hpol : s.agent.settings.assertedHigh g = true) : s.tripLine g = .high ↔ (s.group g).state ≠ .clear := by
  simp [State.tripLine, hrun, hpol]

/-- While a reset holds, no group's state reaches its line (R141). -/
theorem State.tripLine_of_not_running (s : State) (g : Nat) (hrun : s.running = false) :
    s.tripLine g = if s.agent.settings.assertedHigh g then .low else .high := by
  cases hpol : s.agent.settings.assertedHigh g <;> simp [State.tripLine, hrun, hpol]

/-- Settles O49: while the device runs the line is at its asserted level exactly off CLEAR, for either polarity; in a reset only the
polarity counts. -/
theorem tripLineFollowsGroupAndPolarity : Obligations.TripLineFollowsGroupAndPolarity := by
  intro s g _
  refine ⟨fun hrun => ⟨fun hlow => ?_, fun hhigh => ?_⟩, s.tripLine_of_not_running g,
    s.agent.settings.assertedHigh_iff g⟩
  · exact (s.tripLine_eq_low_iff g hrun hlow).trans (GroupState.ne_clear_iff _)
  · exact (s.tripLine_eq_high_iff g hrun hhigh).trans (GroupState.ne_clear_iff _)

end Sys2Proof.Machine
end


section
/-! SUPPORT. When each of the four claims of Table 62 is present, and which claim the arbiter chooses at each row of Table 63. -/

namespace Sys2Proof.Machine

open Sys2Proof

/-! ## The report classes of a frame -/

theorem ReportFrame.urgent_iff (f : ReportFrame) : f.urgent = true ↔ ∃ r ∈ f.records, r.urgent = true := by
  simp [ReportFrame.urgent]

theorem ReportFrame.not_urgent_iff (f : ReportFrame) : f.urgent = false ↔ ∀ r ∈ f.records, r.urgent = false := by
  simp [ReportFrame.urgent]

/-! ## When each claim is present (Table 62) -/

/-- The URGENT report claim needs an address, and a due frame of its class or an URGENT record with room in the list (R123). -/
theorem State.urgentClaim_iff (s : State) :
    s.urgentClaim = true ↔ s.agent.address ≠ none
      ∧ ((∃ f ∈ s.report.unacked, f.due = true ∧ ∃ r ∈ f.records, r.urgent = true)
        ∨ (s.report.unacked.length < 4 ∧ ∃ r ∈ s.report.queue, r.urgent = true)) := by
  simp [State.urgentClaim, ReportFrame.urgent_iff, Option.isSome_iff_ne_none]

/-- The ROUTINE report claim needs an address, and a due frame without URGENT records or any record with room in the list
(R123). -/
theorem State.routineClaim_iff (s : State) :
    s.routineClaim = true ↔ s.agent.address ≠ none
      ∧ ((∃ f ∈ s.report.unacked, f.due = true ∧ ∀ r ∈ f.records, r.urgent = false)
        ∨ (s.report.unacked.length < 4 ∧ s.report.queue ≠ [])) := by
  simp [State.routineClaim, ReportFrame.not_urgent_iff, Option.isSome_iff_ne_none]

/-- The response claim needs a queued response and an address (R144). -/
theorem State.responseClaim_iff (s : State) :
    s.responseClaim = true ↔ s.agent.responses ≠ [] ∧ s.agent.address ≠ none := by
  simp [State.responseClaim, Option.isSome_iff_ne_none]

/-- The transit claim rests on the head frame of the queue proper alone (R82). -/
theorem State.transitClaim_iff (s : State) :
    s.transitClaim = true ↔ ∃ f rest, s.inbound = f :: rest ∧ f.state = .ready := by
  unfold State.transitClaim
  cases s.inbound <;> simp

/-! ## The rows of Table 63 -/

theorem State.choice_of_urgentClaim (s : State) (hu : s.urgentClaim = true) : s.choice = some .urgent := by
  simp [State.choice, hu]

/-- A ROUTINE claim that has been passed over eight times goes before response and transit (R147). -/
theorem State.choice_of_promoted (s : State) (hu : s.urgentClaim = false) (hp : s.promotion = 8)
    (hr : s.routineClaim = true) : s.choice = some .routine := by
  simp [State.choice, hu, hp, hr]

/-- With no URGENT and no promoted ROUTINE claim, what remains is response before transit before ROUTINE. -/
theorem State.choice_of_not_promoted (s : State) (hu : s.urgentClaim = false)
    (hp : ¬(s.promotion = 8 ∧ s.routineClaim = true)) :
    s.choice = if s.responseClaim then some .response
      else if s.transitClaim then some .transit
      else if s.routineClaim then some .routine
      else none := by
  simp [State.choice, hu, hp]

/-- Settles O43: the claims by Table 62, then the rows of Table 63 from the top. -/
theorem arbiterChoosesByTable63 : Obligations.ArbiterChoosesByTable63 := by
  intro s
  refine ⟨s.urgentClaim_iff, s.routineClaim_iff, s.responseClaim_iff, s.transitClaim_iff, s.choice_of_urgentClaim,
    s.choice_of_promoted, fun hu hp => ?_⟩
  rw [s.choice_of_not_promoted hu hp]
  refine ⟨fun hresp => ?_, fun hresp htrans => ?_, fun hresp htrans => ?_⟩
  · rw [if_pos hresp]
  · simp [hresp, htrans]
  · simp [hresp, htrans]

end Sys2Proof.Machine
end

section
/-! SUPPORT. The judgement of an arrival (R55 to R60): what each of its steps leaves, the persistence law it keeps, and how runs of
arrivals are counted. -/

namespace Sys2Proof.Machine

open Sys2Proof

/-! ## What a judgement leaves -/

/-- A verdict as a judgement can leave it: a count its condition allows, neither IDLE nor STALE, and at most n events, RESUME
not among them. -/
structure ConfigRecord.Settles (r : ConfigRecord) (n : Nat) (x : Verdict) : Prop where
  count : r.countOk x.condition x.persistence = true
  notIdle : x.condition ≠ .idle
  notStale : x.condition ≠ .stale
  events : x.events.length ≤ n
  resume : .resume ∉ x.events

theorem ConfigRecord.rise_settles (r : ConfigRecord) (k : Nat) (h1 : 1 ≤ k) (hk : k ≤ r.enterPersistence) :
    r.Settles 1 (r.rise k) := by
  unfold ConfigRecord.rise
  split
  · exact ⟨rfl, by simp, by simp, by simp, by simp⟩
  · exact ⟨by simp [ConfigRecord.countOk]; omega, by simp, by simp, by simp, by simp⟩

theorem ConfigRecord.fall_settles (r : ConfigRecord) (k : Nat) (h1 : 1 ≤ k) (hk : k ≤ r.enterPersistence) :
    r.Settles 1 (r.fall k) := by
  unfold ConfigRecord.fall
  split
  · exact ⟨rfl, by simp, by simp, by simp, by simp⟩
  · exact ⟨by simp [ConfigRecord.countOk]; omega, by simp, by simp, by simp, by simp⟩

theorem ConfigRecord.settles_at_rest (r : ConfigRecord) (n : Nat) (c : Condition) (h : c = .normal ∨ c = .high ∨ c = .low) :
    r.Settles n ⟨c, 0, []⟩ := by
  rcases h with rfl | rfl | rfl <;> exact ⟨rfl, by simp, by simp, by simp, by simp⟩

theorem ConfigRecord.judgeNormal_settles (r : ConfigRecord) (v : Int) (he : 1 ≤ r.enterPersistence) :
    r.Settles 1 (r.judgeNormal v) := by
  unfold ConfigRecord.judgeNormal
  split_ifs
  · exact r.rise_settles 1 le_rfl he
  · exact r.fall_settles 1 le_rfl he
  · exact r.settles_at_rest 1 .normal (.inl rfl)

/-- A RETURN adds one event to the second judgement (R59). -/
theorem ConfigRecord.returned_settles (r : ConfigRecord) (v : Int) (he : 1 ≤ r.enterPersistence) :
    r.Settles 2 (r.returned v) := by
  obtain ⟨hcount, hidle, hstale, hevents, hresume⟩ := r.judgeNormal_settles v he
  exact ⟨hcount, hidle, hstale, by simpa [ConfigRecord.returned] using hevents,
    by simpa [ConfigRecord.returned] using hresume⟩

theorem ConfigRecord.clearFromHigh_settles (r : ConfigRecord) (k : Nat) (v : Int) (he : 1 ≤ r.enterPersistence)
    (h1 : 1 ≤ k) (hk : k ≤ r.returnPersistence) : r.Settles 2 (r.clearFromHigh k v) := by
  unfold ConfigRecord.clearFromHigh
  split_ifs
  · exact r.returned_settles v he
  · exact ⟨by simp [ConfigRecord.countOk]; omega, by simp, by simp, by simp, by simp⟩
  · exact r.settles_at_rest 2 .high (.inr (.inl rfl))

theorem ConfigRecord.clearFromLow_settles (r : ConfigRecord) (k : Nat) (v : Int) (he : 1 ≤ r.enterPersistence)
    (h1 : 1 ≤ k) (hk : k ≤ r.returnPersistence) : r.Settles 2 (r.clearFromLow k v) := by
  unfold ConfigRecord.clearFromLow
  split_ifs
  · exact r.returned_settles v he
  · exact ⟨by simp [ConfigRecord.countOk]; omega, by simp, by simp, by simp, by simp⟩
  · exact r.settles_at_rest 2 .low (.inr (.inr rfl))

theorem ConfigRecord.Settles.mono {r : ConfigRecord} {m n : Nat} {x : Verdict} (h : r.Settles m x) (hmn : m ≤ n) :
    r.Settles n x :=
  ⟨h.count, h.notIdle, h.notStale, h.events.trans hmn, h.resume⟩

/-- From any condition but STALE the judgement settles with at most two events and no RESUME (R64). -/
theorem ConfigRecord.judge_settles (r : ConfigRecord) (c : Condition) (k : Nat) (v : Int) (he : 1 ≤ r.enterPersistence)
    (hr : 1 ≤ r.returnPersistence) (hk : r.countOk c k = true) (hc : c ≠ .stale) : r.Settles 2 (r.judge c k v) := by
  cases c with
  | idle | normal => exact (r.judgeNormal_settles v he).mono (by omega)
  | rising =>
    have hk : 1 ≤ k ∧ k < r.enterPersistence := by simpa [ConfigRecord.countOk] using hk
    unfold ConfigRecord.judge
    dsimp only
    split_ifs
    · exact (r.rise_settles (k + 1) (by omega) (by omega)).mono (by omega)
    · exact (r.fall_settles 1 le_rfl he).mono (by omega)
    · exact r.settles_at_rest 2 .normal (.inl rfl)
  | falling =>
    have hk : 1 ≤ k ∧ k < r.enterPersistence := by simpa [ConfigRecord.countOk] using hk
    unfold ConfigRecord.judge
    dsimp only
    split_ifs
    · exact (r.fall_settles (k + 1) (by omega) (by omega)).mono (by omega)
    · exact (r.rise_settles 1 le_rfl he).mono (by omega)
    · exact r.settles_at_rest 2 .normal (.inl rfl)
  | high => exact r.clearFromHigh_settles 1 v he le_rfl hr
  | highClearing =>
    have hk : 1 ≤ k ∧ k < r.returnPersistence := by simpa [ConfigRecord.countOk] using hk
    exact r.clearFromHigh_settles (k + 1) v he (by omega) (by omega)
  | low => exact r.clearFromLow_settles 1 v he le_rfl hr
  | lowClearing =>
    have hk : 1 ≤ k ∧ k < r.returnPersistence := by simpa [ConfigRecord.countOk] using hk
    exact r.clearFromLow_settles (k + 1) v he (by omega) (by omega)
  | stale => exact absurd rfl hc

/-- Every judgement keeps the persistence law (R32, Table 32). -/
theorem ConfigRecord.judge_countOk (r : ConfigRecord) (c : Condition) (k : Nat) (v : Int) (he : 1 ≤ r.enterPersistence)
    (hr : 1 ≤ r.returnPersistence) (hk : r.countOk c k = true) :
    r.countOk (r.judge c k v).condition (r.judge c k v).persistence = true := by
  by_cases hc : c = .stale
  · subst hc
    exact (r.judgeNormal_settles v he).count
  · exact (r.judge_settles c k v he hr hk hc).count

theorem Condition.tag_eq_high_iff (c : Condition) : c.tag = .high ↔ c = .high ∨ c = .highClearing := by
  cases c <;> simp [Condition.tag]

/-- Settles O32: the steps of the judgement settle one by one, and from STALE it is the judgement from NORMAL behind a RESUME. -/
theorem judgementKeepsTheCountRanges : Obligations.JudgementKeepsTheCountRanges := by
  intro r c k v he hr hk
  by_cases hc : c = .stale
  · subst hc
    obtain ⟨hcount, hidle, hstale, hevents, -⟩ := r.judgeNormal_settles v he
    exact ⟨hcount, hidle, hstale, by simpa [ConfigRecord.judge] using hevents, by simp [ConfigRecord.judge],
      Condition.tag_eq_high_iff _⟩
  · obtain ⟨hcount, hidle, hstale, hevents, hresume⟩ := r.judge_settles c k v he hr hk hc
    exact ⟨hcount, hidle, hstale, hevents, by simp [hresume, hc], Condition.tag_eq_high_iff _⟩

/-! ## Runs of arrivals (R55 to R59) -/

/-- The verdict after arrivals of these values, one after another. -/
def ConfigRecord.judgeAll (r : ConfigRecord) (x : Verdict) (values : List Int) : Verdict :=
  values.foldl (fun (x : Verdict) v => r.judge x.condition x.persistence v) x

/-- A run of n arrivals that all count: the last of them ends the run, and each before leaves its number. -/
theorem ConfigRecord.judgeAll_counts (r : ConfigRecord) (start : Condition) (during : Condition) (n : Nat)
    (ends : Int → Verdict) (counts : Int → Prop)
    (hfirst : ∀ v, counts v → r.judge start 0 v = if 1 = n then ends v else ⟨during, 1, []⟩)
    (hnext : ∀ k v, counts v → r.judge during k v = if k + 1 = n then ends v else ⟨during, k + 1, []⟩)
    (values : List Int) (last : Int) (hall : ∀ v ∈ values ++ [last], counts v) (hn : values.length + 1 ≤ n) :
    r.judgeAll ⟨start, 0, []⟩ (values ++ [last])
      = if values.length + 1 = n then ends last else ⟨during, values.length + 1, []⟩ := by
  induction values using List.reverseRecOn generalizing last with
  | nil => exact hfirst last (hall last (by simp))
  | append_singleton rest v ih =>
    have hrest : r.judgeAll ⟨start, 0, []⟩ (rest ++ [v]) = ⟨during, rest.length + 1, []⟩ := by
      rw [ih v (fun w hw => hall w (by simp at hw ⊢; tauto)) (by simp at hn; omega), if_neg (by simp at hn; omega)]
    have hstep := hnext (rest.length + 1) last (hall last (by simp))
    unfold ConfigRecord.judgeAll at hrest ⊢
    rw [List.foldl_append, hrest]
    simpa using hstep

/-- The same run, for the two lengths that the rules name. -/
theorem ConfigRecord.judgeAll_run (r : ConfigRecord) (start : Condition) (during : Condition) (n : Nat)
    (ends : Int → Verdict) (counts : Int → Prop)
    (hfirst : ∀ v, counts v → r.judge start 0 v = if 1 = n then ends v else ⟨during, 1, []⟩)
    (hnext : ∀ k v, counts v → r.judge during k v = if k + 1 = n then ends v else ⟨during, k + 1, []⟩)
    (values : List Int) (hne : values ≠ []) (hall : ∀ v ∈ values, counts v) :
    (values.length < n → r.judgeAll ⟨start, 0, []⟩ values = ⟨during, values.length, []⟩)
      ∧ (values.length = n → ∀ v, values.getLast? = some v → r.judgeAll ⟨start, 0, []⟩ values = ends v) := by
  obtain ⟨rest, last, rfl⟩ : ∃ rest last, values = rest ++ [last] :=
    ⟨values.dropLast, values.getLast hne, (List.dropLast_append_getLast hne).symm⟩
  have hrun := r.judgeAll_counts start during n ends counts hfirst hnext rest last hall
  rw [List.length_append, List.length_singleton]
  refine ⟨fun hlt => ?_, fun heq v hv => ?_⟩
  · rw [hrun (by omega), if_neg (by omega)]
  · rw [hrun (by omega), if_pos heq]
    simp at hv
    rw [hv]

/-- Settles O31: the four runs are one counting argument, and each value that breaks a run is one case of the judgement. -/
theorem persistenceCountsConsecutiveArrivals : Obligations.PersistenceCountsConsecutiveArrivals := by
  refine ⟨fun r values hne => ⟨fun habove => ?_, fun hbelow => ?_, fun hclear => ?_, fun hclear => ?_⟩, fun r k v => ?_⟩
  · obtain ⟨hlt, heq⟩ := r.judgeAll_run .normal .rising r.enterPersistence (fun _ => ⟨.high, 0, [.enterHigh]⟩)
      (fun v => r.above v = true) (fun v hv => by simp [ConfigRecord.judge, ConfigRecord.judgeNormal, ConfigRecord.rise, hv])
      (fun k v hv => by simp [ConfigRecord.judge, ConfigRecord.rise, hv]) values hne habove
    exact ⟨hlt, fun h => heq h _ (List.getLast?_eq_some_getLast hne)⟩
  · obtain ⟨hlt, heq⟩ := r.judgeAll_run .normal .falling r.enterPersistence (fun _ => ⟨.low, 0, [.enterLow]⟩)
      (fun v => r.below v = true ∧ r.above v = false)
      (fun v hv => by simp [ConfigRecord.judge, ConfigRecord.judgeNormal, ConfigRecord.fall, hv])
      (fun k v hv => by simp [ConfigRecord.judge, ConfigRecord.fall, hv]) values hne hbelow
    exact ⟨hlt, fun h => heq h _ (List.getLast?_eq_some_getLast hne)⟩
  · exact r.judgeAll_run .high .highClearing r.returnPersistence r.returned (fun v => r.clearHigh v = true)
      (fun v hv => by simp [ConfigRecord.judge, ConfigRecord.clearFromHigh, hv])
      (fun k v hv => by simp [ConfigRecord.judge, ConfigRecord.clearFromHigh, hv]) values hne hclear
  · exact r.judgeAll_run .low .lowClearing r.returnPersistence r.returned (fun v => r.clearLow v = true)
      (fun v hv => by simp [ConfigRecord.judge, ConfigRecord.clearFromLow, hv])
      (fun k v hv => by simp [ConfigRecord.judge, ConfigRecord.clearFromLow, hv]) values hne hclear
  · refine ⟨fun ha => ?_, fun hb => ?_, fun ha hb => ?_, fun hc => ?_, fun hc => ?_⟩
    · simp [ConfigRecord.judge, ConfigRecord.judgeNormal, ha]
    · simp only [ConfigRecord.judge, ConfigRecord.judgeNormal, hb, Bool.false_eq_true, if_false]
    · simp [ConfigRecord.judge, ha, hb]
    · simp [ConfigRecord.judge, ConfigRecord.clearFromHigh, hc]
    · simp [ConfigRecord.judge, ConfigRecord.clearFromLow, hc]

end Sys2Proof.Machine
end

section
/-! SUPPORT. What a step can do, said once: the elementary updates that every command and every byte time are made of, each with
the conditions under which the model makes it. Every law that a step keeps is proved for these updates. -/

namespace Sys2Proof.Machine

open Sys2Proof

/-! ## The updates of a claim on the channel table -/

/-- A run state that the table's law allows entry e under its live record (R32, R36, R91). -/
def State.runOk (s : State) (e : Nat) (r : RunState) : Prop :=
  r.position < (s.entry e).live.period
    ∧ (s.entry e).live.countOk r.condition r.persistence = true
    ∧ (s.watched e = false → r.condition = .idle ∧ r.position = 0 ∧ r.age = 0)
    ∧ r.age ≤ 65535 ∧ r.splitCount ≤ 255 ∧ r.tally ≤ 255

/-- A choice of entries that can switch together: whole units, each entry at a position within its new period (R38, R102). -/
structure State.Switchable (s : State) (chosen : Nat → Bool) (outOfTurn : Bool) : Prop where
  whole : ∀ e < 96, s.unitUpper e = true → chosen e = chosen (e - 1)
  within : ∀ e < 96, chosen e = true →
    (s.switchedEntry outOfTurn e (s.entry e)).run.position < (s.entry e).staging.period

/-- The acceptance of a COMMIT before its completion is decided: generation raised, units tested, deadline set (R99). -/
def State.accepting (s : State) (d : Nat) : State :=
  let t := { s with commit := { s.commit with generation := s.commit.generation + 1, forcedCount := 0 } }.acceptUnits
  { t with commit := { t.commit with pending := true, deadline := d } }

/-- One update of a claim on the channel table; the hand-over to the groups comes at the claim's end (R68). -/
inductive Work : State → State → Prop
  | raise (s : State) (ev : Event) (hsubject : ev.subject ≠ .loss) (hfields : ev.value = none ∨ ev.extra = none) :
      Work s (s.raise ev)
  | run (s : State) (e : Nat) (f : RunState → RunState)
      (hkept : ∀ r, (f r).generation = r.generation ∧ (f r).waiting = r.waiting)
      (hok : s.entryLaw e → s.runOk e (f (s.entry e).run)) : Work s (s.modifyRun e f)
  | switch (s : State) (chosen : Nat → Entry → Bool) (outOfTurn : Bool)
      (hok : s.tableLaw → s.Switchable (fun i => chosen i (s.entry i)) outOfTurn) :
      Work s (s.switchEntries chosen outOfTurn)
  | forced (s : State) (n : Nat) : Work s { s with commit := { s.commit with forcedCount := n } }
  | complete (s : State) (hwaits : ∀ x ∈ s.table, x.run.waiting = false) :
      Work s { s with commit := { s.commit with pending := false, deadline := 0 } }
  | accept (s : State) (d : Nat) (hidle : s.commit.pending = false) : Work s (s.accepting d)
  | addKey (s : State) (k : MapKey) (hrange : k.node < 64 ∧ k.channel < 16 ∧ k.entry < 96)
      (hkey : s.lookup k.node k.channel = none) (hentry : s.mapped k.entry = false) :
      Work s { s with map := insertKey k s.map }
  | due (s : State) (l : List Nat) (hnil : s.staleDue = [] → l = []) : Work s { s with staleDue := l }

/-- A claim on the channel table before its hand-over. -/
abbrev Works : State → State → Prop := Relation.ReflTransGen Work

/-! ## The updates of the device -/

/-- One update of the channel table and the commit, of the report queue, the trip groups or the tick generator. -/
inductive Core : State → State → Prop
  | claim (s t : State) (hworks : Works s t) : Core s t.handOver
  | stale (s t : State) (l : List Nat) (hdue : s.staleDue ≠ []) (hleft : l ≠ []) (hworks : Works s t) :
      Core s { t with staleDue := l }
  | unmap (s : State) (node channel e : Nat) (hkey : s.lookup node channel = some e) :
      Core s ({ s with map := s.map.filter fun k => !(k.node == node && k.channel == channel) }.mapChange e)
  | wipe (s t : State) (hworks : Works s t) (hidle : t.commit.pending = false) : Core s t.clearRuns.clearGroups
  | forgetTally (s : State) (e : Nat) : Core s (s.modifyRun e fun r => { r with tally := 0, lastKind := none })
  | stage (s : State) (e : Nat) (r : ConfigRecord) (hidle : s.commit.pending = false) (hstored : r.stored e) :
      Core s { s with table := s.table.modify e fun x => { x with staging := r } }
  | deadline (s : State) : Core s s.deadlineStep
  | elapsed (s : State) (n : Nat) : Core s { s with elapsed := n }
  | raise (s : State) (ev : Event) (hsubject : ev.subject ≠ .loss) (hstage : ∀ e, ev.subject ≠ .entry e)
      (hfields : ev.value = none ∨ ev.extra = none) : Core s (s.raise ev)
  | lose (s : State) (k : Nat) : Core s (s.lose k)
  | queue (s : State) (q : List ReportRecord) (hsub : q.Sublist s.report.queue) :
      Core s { s with report := { s.report with queue := q } }
  | groups (s : State) (l : List TripGroup) (hlaw : s.tripLaw → { s with groups := l }.tripLaw) :
      Core s { s with groups := l }

/-- One update of a device that neither ages its entries nor changes its power or reset pin. -/
inductive Act : State → State → Prop
  | core {s t : State} (hcore : Core s t) : Act s t
  | list (s : State) (l : List ReportFrame) (n : Byte)
      (hlaw : s.listLaw → { s with report := { s.report with unacked := l, nextSequence := n } }.listLaw)
      (hnone : s.agent.address = none → s.report.unacked = [] → l = []) :
      Act s { s with report := { s.report with unacked := l, nextSequence := n } }
  | counters (s : State) (c : Counters)
      (hlaw : s.agentLaw → { s with agent := { s.agent with counters := c } }.agentLaw) :
      Act s { s with agent := { s.agent with counters := c } }
  | outbound (s : State) (l : List OutboundFrame) (hlength : s.agent.outbound.length ≤ 4 → l.length ≤ 4) :
      Act s { s with agent := { s.agent with outbound := l } }
  | respond (s : State) (r : Response) (hroom : s.agent.responses.length < 2) (hpayload : r.payload.length ≤ 55)
      (haddress : s.agent.address ≠ none) : Act s (s.respond r)
  | responses (s : State) (l : List Response)
      (hsub : (l.map (·.payload)).Sublist (s.agent.responses.map (·.payload))) :
      Act s { s with agent := { s.agent with responses := l } }
  | record (s : State) (tag : Byte) (status : Status) (hnew : s.recentStatus tag = none) : Act s (s.record tag status)
  | forget (s : State) : Act s { s with agent := { s.agent with recent := [] } }
  | settings (s : State) (x : Settings) (hlimit : x.retryLimit ≤ 15) : Act s (s.storeSettings x)
  | cause (s : State) (c : ResetCause) : Act s { s with agent := { s.agent with lastCause := c } }
  | address (s : State) (a : Byte) (hrange : 1 ≤ a.toNat ∧ a.toNat ≤ 30) :
      Act s { s with agent := { s.agent with address := some a } }
  | unassign (s : State) (hresponses : s.agent.responses = []) (hunacked : s.report.unacked = []) :
      Act s { s with agent := { s.agent with address := none } }
  | promotion (s : State) (n : Nat) (hbound : s.promotion ≤ 8 → n ≤ 8) : Act s { s with promotion := n }
  | inbound (s : State) (l : List InboundFrame) (hlength : l.length ≤ s.inbound.length)
      (htail : (∀ f ∈ s.inbound.tail, f.state ≠ .inTransmission) → ∀ f ∈ l.tail, f.state ≠ .inTransmission) :
      Act s { s with inbound := l }
  | join (s : State) (f : InboundFrame) (hstate : f.state ≠ .inTransmission) (hup : s.fPort.rx.state = .up)
      (hopen : s.fPort.rx.receiving = true) :
      Act s { s.closeReception .f with inbound := s.inbound ++ [f] }
  | rx (s : State) (p : Port) (r : RxSide) (hwf : (s.port p).rx.wf = true → r.wf = true)
      (hdown : s.running = false → (s.port p).rx = RxSide.inDown → r = RxSide.inDown)
      (hroom : p = .f → r.receiving = true → s.fPort.rx.receiving = true ∨ s.inbound.length < 10) :
      Act s (s.setRx p r)
  | tx (s : State) (p : Port) (x : TxSide) (hgap : (s.port p).tx.longGap ≤ 16 → x.longGap ≤ 16)
      (hruns : s.running = true ∨ (s.port p).tx.frame ≠ none) : Act s (s.setTx p x)

/-- Updates one after another. -/
abbrev Acts : State → State → Prop := Relation.ReflTransGen Act

/-- The parts of a step: the updates above, the aging of a tick, the power supply and the pin RSTn, and what the lines bring. -/
inductive Move : State → State → Prop
  | act (s t : State) (hact : Act s t) : Move s t
  | age (s : State) (hdone : s.staleDue = []) : Move s s.ageStep
  | holdEnd (s : State) : Move s s.holdEnd
  | silence (s : State) (x : Power) (b : Bool) : Move s { s.silencePorts with power := x, rstn := b }
  | hold (s : State) (m n : Nat) (hhold : s.power = .hold m) : Move s { s with power := .hold n }
  | rstn (s : State) (b : Bool) (n : Nat) (hhold : s.power = .hold n) : Move s { s with rstn := b }
  | pinHigh (s : State) (hpower : s.power = .running) : Move s { s.startPorts with rstn := true }
  | lines (s : State) : Move s s.advanceLines

abbrev Moves : State → State → Prop := Relation.ReflTransGen Move

end Sys2Proof.Machine
end

section
/-! SUPPORT. The operations on the channel table as updates of a claim: the units of R38, the switches, the completion of a commit,
STALE, and the arrivals of a frame. -/

namespace Sys2Proof.Machine

open Sys2Proof Relation

/-! ## Commit units (R38) -/

theorem State.unitUpper_iff (s : State) (e : Nat) :
    s.unitUpper e = true ↔ e % 2 = 1 ∧ ((s.entry (e - 1)).live.pair = true ∨ (s.entry (e - 1)).staging.pair = true) := by
  simp [State.unitUpper, State.pairUnit]

theorem State.pairedUpper_iff (s : State) (e : Nat) :
    s.pairedUpper e = true ↔ e % 2 = 1 ∧ (s.entry (e - 1)).live.pair = true := by
  simp [State.pairedUpper]

theorem State.watched_iff (s : State) (e : Nat) :
    s.watched e = true ↔ s.mapped e = true ∧ (s.entry e).live.enable = true ∧ s.pairedUpper e = false := by
  simp [State.watched, and_assoc]

theorem State.unitLower_of_lower (s : State) (e : Nat) (h : s.unitUpper e = false) : s.unitLower e = e := by
  simp [State.unitLower, h]

theorem State.unitLower_of_upper (s : State) (e : Nat) (h : s.unitUpper e = true) : s.unitLower e = e - 1 := by
  simp [State.unitLower, h]

theorem State.unitUpper_of_even (s : State) (e : Nat) (h : e % 2 = 0) : s.unitUpper e = false := by
  simp [State.unitUpper, h]

/-- No lower entry of a unit is the upper entry of another. -/
theorem State.unitUpper_unitLower (s : State) (e : Nat) : s.unitUpper (s.unitLower e) = false := by
  cases h : s.unitUpper e with
  | false => rwa [s.unitLower_of_lower e h]
  | true =>
    have hodd := ((s.unitUpper_iff e).mp h).1
    rw [s.unitLower_of_upper e h]
    exact s.unitUpper_of_even (e - 1) (by omega)

/-- The entries of a unit: its lower entry, and the upper entry above it. -/
theorem State.mem_unit_iff (s : State) (e i : Nat) :
    i ∈ s.unit e ↔ i = s.unitLower e ∨ (s.unitUpper i = true ∧ i - 1 = s.unitLower e) := by
  have hl := s.unitUpper_unitLower e
  unfold State.unit
  dsimp only
  generalize s.unitLower e = b at hl
  by_cases hb : b % 2 = 0
  · have hu : s.unitUpper (b + 1) = s.pairUnit b := by simp [State.unitUpper, Nat.add_mod, hb]
    by_cases hp : s.pairUnit b = true
    · simp only [hb, hp, beq_self_eq_true, Bool.and_self, if_true, List.mem_cons, List.not_mem_nil, or_false]
      refine or_congr_right ⟨?_, ?_⟩
      · rintro rfl; exact ⟨hu.trans hp, rfl⟩
      · rintro ⟨hi, hib⟩
        have := ((s.unitUpper_iff i).mp hi).1
        omega
    · simp only [hb, hp, Bool.and_false, Bool.false_eq_true, if_false, List.mem_singleton]
      refine ⟨.inl, ?_⟩
      rintro (h | ⟨hi, hib⟩)
      · exact h
      · have := ((s.unitUpper_iff i).mp hi).1
        have : i = b + 1 := by omega
        subst this
        exact absurd (hu.symm.trans hi) hp
  · simp only [show (b % 2 == 0) = false by simpa using hb, Bool.false_and, Bool.false_eq_true, if_false,
      List.mem_singleton]
    refine ⟨.inl, ?_⟩
    rintro (h | ⟨hi, hib⟩)
    · exact h
    · have := ((s.unitUpper_iff i).mp hi).1
      omega

theorem State.mem_unit_self (s : State) (e : Nat) : e ∈ s.unit e := by
  rw [s.mem_unit_iff]
  cases h : s.unitUpper e with
  | false => exact .inl (s.unitLower_of_lower e h).symm
  | true => exact .inr ⟨rfl, (s.unitLower_of_upper e h).symm⟩

/-- A unit holds the upper entry where it holds the lower. -/
theorem State.mem_unit_upper (s : State) (e i : Nat) (h : s.unitUpper i = true) : i ∈ s.unit e ↔ i - 1 ∈ s.unit e := by
  have hodd := ((s.unitUpper_iff i).mp h).1
  rw [s.mem_unit_iff, s.mem_unit_iff]
  have hlow : i ≠ s.unitLower e := by
    rintro rfl
    simp [s.unitUpper_unitLower e] at h
  simp [h, hlow, s.unitUpper_of_even (i - 1) (by omega)]

/-! ## The position a switch leaves (R102) -/

/-- A switched entry's position lies within its new period where it did before, or where the entry was IDLE. -/
theorem State.switchedEntry_position_lt (s : State) (b : Bool) (e : Nat) (x : Entry) (hp : 1 ≤ x.staging.period)
    (h : b = true ∨ x.run.position < x.staging.period ∨ x.run.condition = .idle) :
    (s.switchedEntry b e x).run.position < x.staging.period := by
  have hp : 0 < x.staging.period := hp
  unfold State.switchedEntry
  dsimp only
  rcases h with rfl | h | h
  · simpa using hp
  · split_ifs <;> first | exact hp | exact h
  · split_ifs <;> simp_all [RunState.toIdle, Condition.reduced]

/-- An entry that the switch makes IDLE, its pairing having begun or ended, is at position 0 (R37). -/
theorem State.switchedEntry_position_of_pairing (s : State) (b : Bool) (e : Nat) (x : Entry)
    (h : s.pairedUpper e ≠ (e % 2 == 1 && (s.entry (e - 1)).staging.pair)) :
    (s.switchedEntry b e x).run.position = 0 := by
  have h' : (s.pairedUpper e != (e % 2 == 1 && (s.entry (e - 1)).staging.pair)) = true := by simpa using h
  unfold State.switchedEntry
  simp [h', RunState.toIdle]

/-- The upper entry of a unit is at a position within its new period after the switch of its unit: either its pairing begins
or ends, or it was and stays a paired upper half, IDLE at position 0 (R36, R37). -/
theorem State.switchedEntry_upper_position (s : State) (b : Bool) (e : Nat) (hlaw : s.entryLaw e)
    (hu : s.unitUpper e = true) :
    (s.switchedEntry b e (s.entry e)).run.position < (s.entry e).staging.period := by
  obtain ⟨-, hstored, -, -, hidle, -⟩ := hlaw
  have hperiod : 1 ≤ (s.entry e).staging.period := hstored.2.1
  by_cases hpair : s.pairedUpper e = (e % 2 == 1 && (s.entry (e - 1)).staging.pair)
  · obtain ⟨hodd, hor⟩ := (s.unitUpper_iff e).mp hu
    have hp : s.pairedUpper e = true := by
      rcases hor with h | h
      · exact (s.pairedUpper_iff e).mpr ⟨hodd, h⟩
      · rw [hpair]; simp [hodd, h]
    have hw : s.watched e = false := by simp [State.watched, hp]
    exact s.switchedEntry_position_lt b e _ hperiod (.inr (.inr (hidle hw).1))
  · rw [s.switchedEntry_position_of_pairing b e _ hpair]
    omega

/-! ## Switches as updates of a claim -/

/-- The switch of one unit, where its lower entry may switch at its position (R102, R103). -/
theorem State.switchUnit_works (s : State) (e : Nat) (b : Bool)
    (h : b = true ∨ (s.unitUpper e = false ∧ (s.entry e).run.position = 0)) : Works s (s.switchUnit e b) := by
  refine .single (.switch s _ b fun hlaw => ?_)
  obtain ⟨-, -, hentry⟩ := hlaw
  refine ⟨fun i _ hi => ?_, fun i hi hmem => ?_⟩
  · simpa using s.mem_unit_upper e i hi
  · have hmem : i ∈ s.unit e := by simpa using hmem
    cases hu : s.unitUpper i with
    | true => exact s.switchedEntry_upper_position b i (hentry i hi) hu
    | false =>
      have hperiod : 1 ≤ (s.entry i).staging.period := (hentry i hi).2.1.2.1
      refine s.switchedEntry_position_lt b i _ hperiod (h.imp_right fun hpos => .inl ?_)
      rcases (s.mem_unit_iff e i).mp hmem with hl | ⟨hup, -⟩
      · rw [hl, s.unitLower_of_lower e hpos.1, hpos.2]
        rw [hl, s.unitLower_of_lower e hpos.1] at hperiod
        exact hperiod
      · simp [hu] at hup

/-- The forcing of every waiting unit (R106). -/
theorem State.forceWaiting_works (s : State) : Works s s.forceWaiting := by
  refine .tail (.single (.switch s (fun _ x => x.run.waiting) true fun hlaw => ?_)) (.forced _ s.waitingCount)
  obtain ⟨-, -, hentry⟩ := hlaw
  refine ⟨fun e he hu => ?_, fun e he _ => ?_⟩
  · obtain ⟨-, -, -, -, -, -, -, -, hwait⟩ := hentry e he
    rwa [s.unitLower_of_upper e hu] at hwait
  · exact s.switchedEntry_position_lt true e _ (hentry e he).2.1.2.1 (.inl rfl)

theorem State.mem_table_iff (s : State) (x : Entry) : x ∈ s.table ↔ ∃ e < s.table.length, s.entry e = x := by
  conv_lhs => rw [s.table_eq_map]
  simp

theorem State.switchedEntry_waiting (s : State) (b : Bool) (e : Nat) (x : Entry) :
    (s.switchedEntry b e x).run.waiting = false := by
  obtain ⟨⟨-, -, -, hwait, -⟩, -⟩ := s.switchedEntry_switchedTo b e x
  exact hwait

/-- No entry waits after the forcing. -/
theorem State.forceWaiting_waiting (s : State) : ∀ x ∈ s.forceWaiting.table, x.run.waiting = false := by
  intro x hx
  obtain ⟨e, he, rfl⟩ := (s.forceWaiting.mem_table_iff x).mp hx
  rw [s.forceWaiting_entry e (by simpa [State.forceWaiting] using he)]
  split
  · exact s.switchedEntry_waiting true e _
  · simp_all

/-! ## The completion of a commit and the acceptance of one (R99, R107) -/

/-- A commit completes once no entry waits. -/
theorem State.completeCommit_works (s : State) (h : ∀ x ∈ s.table, x.run.waiting = false) : Works s s.completeCommit :=
  .tail (.single (.complete s h)) (.raise _ _ (by simp) (.inl rfl))

theorem State.waitingCount_eq_zero_iff (s : State) : s.waitingCount = 0 ↔ ∀ x ∈ s.table, x.run.waiting = false := by
  simp [State.waitingCount, List.countP_eq_zero]

theorem State.completeIfEmpty_works (s : State) : Works s s.completeIfEmpty := by
  unfold State.completeIfEmpty
  split
  · rename_i h
    exact s.completeCommit_works (s.waitingCount_eq_zero_iff.mp h.2)
  · exact .refl

/-- The forcing at the end of a deadline, or of a COMMIT with deadline 0 (R99, R106). -/
theorem State.forceComplete_works (s : State) : Works s s.forceWaiting.completeCommit :=
  s.forceWaiting_works.trans (s.forceWaiting.completeCommit_works s.forceWaiting_waiting)

/-- An acceptance, with its tests done and the deadline set before the completion is decided (R99). -/
theorem State.acceptCommit_eq (s : State) (d : Nat) :
    s.acceptCommit d
      = (if (s.accepting d).waitingCount = 0 then (s.accepting d).completeCommit
          else if d = 0 then (s.accepting d).forceWaiting.completeCommit
          else s.accepting d).handOver :=
  rfl

theorem State.acceptCommit_works (s : State) (d : Nat) (h : s.commit.pending = false) :
    ∃ t, Works s t ∧ s.acceptCommit d = t.handOver := by
  refine ⟨_, .trans (.single (.accept s d h)) ?_, s.acceptCommit_eq d⟩
  split_ifs with hw
  · exact State.completeCommit_works _ ((State.waitingCount_eq_zero_iff _).mp hw)
  · exact State.forceComplete_works _
  · exact .refl

/-- A pin or request reset forces a pending commit, and completes it without COMMIT-DONE (R111). -/
theorem State.forceForReset_works (s : State) : Works s s.forceForReset := by
  unfold State.forceForReset
  split
  · exact s.forceWaiting_works.tail (.complete _ s.forceWaiting_waiting)
  · exact .refl

theorem State.forceForReset_pending (s : State) : s.forceForReset.commit.pending = false := by
  unfold State.forceForReset
  split
  · rfl
  · simp_all

/-! ## Run-state resets and the map (R33, R41, R42) -/

/-- A run-state reset keeps what the table's law asks of an entry. -/
theorem State.clearRun_works (s : State) (e : Nat) : Works s (s.modifyRun e RunState.cleared) := by
  refine .single (.run s e _ (fun r => ⟨rfl, rfl⟩) fun hlaw => ?_)
  obtain ⟨⟨-, hperiod, -⟩, -⟩ := hlaw
  exact ⟨hperiod, rfl, fun _ => ⟨rfl, rfl, rfl⟩, by simp [RunState.cleared, RunState.initial]⟩

/-- The effect of a map change on the entry it names, before the hand-over (R41, R42, R108). -/
theorem State.mapChange_works (s : State) (e : Nat) : ∃ t, Works s t ∧ s.mapChange e = t.handOver := by
  refine ⟨_, ?_, rfl⟩
  refine .trans ?_ (State.clearRun_works _ e)
  split
  · exact (s.switchUnit_works e true (.inl rfl)).trans (State.completeIfEmpty_works _)
  · exact .refl

/-! ## STALE (R92) -/

theorem ConfigRecord.countOk_zero (r : ConfigRecord) (c : Condition)
    (h : c ∉ [Condition.rising, .falling, .highClearing, .lowClearing]) : r.countOk c 0 = true := by
  cases c <;> simp_all [ConfigRecord.countOk]

theorem State.raiseChannel_work (s : State) (e : Nat) (kind : EventKind) (v : Option Int) :
    Work s (s.raiseChannel e kind v) :=
  .raise s _ (by simp) (.inr rfl)

theorem State.makeStale_works (s : State) (e : Nat) : Works s (s.makeStale e) := by
  unfold State.makeStale
  split
  · rename_i h
    have hw : s.watched e = true := by
      simp only [State.staleReached, Bool.and_eq_true] at h
      exact h.1.1.1
    have hrun : Work s (s.modifyRun e fun r => { r with condition := .stale, persistence := 0 }) :=
      .run s e _ (fun r => ⟨rfl, rfl⟩) fun ⟨_, _, hpos, _, _, hage, hsplit, htally, _⟩ =>
        ⟨hpos, rfl, fun hn => absurd hw (by simp [hn]), hage, hsplit, htally⟩
    exact .tail (.single hrun) (State.raiseChannel_work _ e _ _)
  · exact .refl

/-- An operation that is a chain of updates, done for each of a list, is one. -/
theorem Works.foldl {α : Type} (f : State → α → State) (h : ∀ s a, Works s (f s a)) (l : List α) (s : State) :
    Works s (l.foldl f s) := by
  induction l generalizing s with
  | nil => exact .refl
  | cons a rest ih => exact (h s a).trans (ih _)

end Sys2Proof.Machine
end

section
/-! SUPPORT. The arrivals of a frame claim: what an evaluated arrival leaves of its entry and of the report queue, and each arrival
as updates of the claim. -/

namespace Sys2Proof.Machine

open Sys2Proof Relation

/-! ## Channel events in a row (R64, R116) -/

/-- An event touches the tally of its entry and the report queue alone. -/
theorem State.raise_eq (s : State) (ev : Event) :
    s.raise ev
      = { s with
          table := (s.tally ev).table
          report := { s.report with
            queue := if ev.eventClass = .silent then s.report.queue
              else placeEvent s.commit.generation ev s.report.queue } } := by
  obtain ⟨subject, kind, eventClass, generation, value, extra⟩ := ev
  cases subject <;> cases eventClass <;> rfl

/-- Only the run state that an update finds has a bearing on it. -/
theorem State.modifyRun_congr (s : State) (e : Nat) (f g : RunState → RunState) (h : f (s.entry e).run = g (s.entry e).run) :
    s.modifyRun e f = s.modifyRun e g := by
  unfold State.modifyRun
  congr 1
  apply List.ext_getElem?
  intro i
  by_cases hi : e = i
  · subst hi
    by_cases hl : e < s.table.length
    · simp [s.getElem?_table e hl, h]
    · simp [List.getElem?_eq_none (Nat.le_of_not_lt hl)]
  · simp [hi]

theorem State.raiseChannel_entry_self (s : State) (e : Nat) (k : EventKind) (v : Option Int) (h : e < s.table.length) :
    (s.raiseChannel e k v).entry e
      = { s.entry e with
          run := { (s.entry e).run with tally := satAdd Config.byteMax (s.entry e).run.tally 1, lastKind := some k } } := by
  rw [State.entry_congr _ _ e (s.raiseChannel_table e k v), s.modifyRun_entry_self e _ h]

theorem State.raiseChannel_entry_other (s : State) (e i : Nat) (k : EventKind) (v : Option Int) (h : i ≠ e) :
    (s.raiseChannel e k v).entry i = s.entry i := by
  rw [State.entry_congr _ _ i (s.raiseChannel_table e k v), s.modifyRun_entry_other e i _ h]

theorem State.raiseChannel_live (s : State) (e i : Nat) (k : EventKind) (v : Option Int) :
    ((s.raiseChannel e k v).entry i).live = (s.entry i).live := by
  rw [State.entry_congr _ _ i (s.raiseChannel_table e k v)]
  exact (s.modifyRun_slots e i _).1

@[simp] theorem State.raiseChannel_length (s : State) (e : Nat) (k : EventKind) (v : Option Int) :
    (s.raiseChannel e k v).table.length = s.table.length := by
  simp [State.raiseChannel_table]

/-- The events of one arrival at entry e, in their order. -/
def State.raiseChannels (s : State) (e : Nat) (v : Option Int) (kinds : List EventKind) : State :=
  kinds.foldl (fun u kind => u.raiseChannel e kind v) s

/-- Events at an entry count in its tally, and the newest is its last event kind (R116). -/
theorem State.raiseChannels_entry_self (s : State) (e : Nat) (v : Option Int) (kinds : List EventKind)
    (h : e < s.table.length) :
    (s.raiseChannels e v kinds).entry e
      = { s.entry e with
          run := { (s.entry e).run with
            tally := kinds.foldl (fun n _ => min 255 (n + 1)) (s.entry e).run.tally
            lastKind := kinds.foldl (fun _ k => some k) (s.entry e).run.lastKind } } := by
  induction kinds generalizing s with
  | nil => rfl
  | cons k rest ih =>
    have hstep := ih (s.raiseChannel e k v) (by simpa using h)
    rw [s.raiseChannel_entry_self e k v h] at hstep
    exact hstep

theorem State.raiseChannels_entry_other (s : State) (e i : Nat) (v : Option Int) (kinds : List EventKind) (h : i ≠ e) :
    (s.raiseChannels e v kinds).entry i = s.entry i := by
  induction kinds generalizing s with
  | nil => rfl
  | cons k rest ih => exact (ih (s.raiseChannel e k v)).trans (s.raiseChannel_entry_other e i k v h)

@[simp] theorem State.raiseChannels_length (s : State) (e : Nat) (v : Option Int) (kinds : List EventKind) :
    (s.raiseChannels e v kinds).table.length = s.table.length := by
  induction kinds generalizing s with
  | nil => rfl
  | cons k rest ih => exact (ih (s.raiseChannel e k v)).trans (by simp)

theorem State.raiseChannels_live (s : State) (e i : Nat) (v : Option Int) (kinds : List EventKind) :
    ((s.raiseChannels e v kinds).entry i).live = (s.entry i).live := by
  induction kinds generalizing s with
  | nil => rfl
  | cons k rest ih => exact (ih (s.raiseChannel e k v)).trans (s.raiseChannel_live e i k v)

/-- A channel event touches the tally of its entry and the report queue alone. -/
theorem State.raiseChannel_eq (s : State) (e : Nat) (k : EventKind) (v : Option Int) :
    s.raiseChannel e k v
      = { s with
          table := (s.raiseChannel e k v).table
          report := { s.report with
            queue :=
              if (s.entry e).live.eventClass k = .silent then s.report.queue
              else placeEvent s.commit.generation
                ⟨.entry e, k, (s.entry e).live.eventClass k, (s.entry e).run.generation, v, none⟩ s.report.queue } } := by
  unfold State.raiseChannel
  rw [State.raise_table]
  exact s.raise_eq _

/-- Events at an entry touch its tally and the report queue alone, each placed with the class its live record gives. -/
theorem State.raiseChannels_eq (s : State) (e : Nat) (v : Option Int) (kinds : List EventKind) :
    s.raiseChannels e v kinds
      = { s with
          table := (s.raiseChannels e v kinds).table
          report := { s.report with
            queue := kinds.foldl
              (fun q k =>
                if (s.entry e).live.eventClass k = .silent then q
                else placeEvent s.commit.generation
                  ⟨.entry e, k, (s.entry e).live.eventClass k, (s.entry e).run.generation, v, none⟩ q)
              s.report.queue } } := by
  induction kinds generalizing s with
  | nil => rfl
  | cons k rest ih =>
    have hgen : ((s.raiseChannel e k v).entry e).run.generation = (s.entry e).run.generation := by
      by_cases h : e < s.table.length
      · rw [s.raiseChannel_entry_self e k v h]
      · have hle : s.table.length ≤ e := Nat.le_of_not_lt h
        rw [s.entry_of_le e hle, State.entry_of_le _ e (by simpa using hle)]
    have hstep := ih (s.raiseChannel e k v)
    rw [s.raiseChannel_live e e k v, hgen] at hstep
    show (s.raiseChannel e k v).raiseChannels e v rest
      = { s with table := ((s.raiseChannel e k v).raiseChannels e v rest).table, report := _ }
    refine hstep.trans ?_
    generalize ((s.raiseChannel e k v).raiseChannels e v rest).table = T
    rw [s.raiseChannel_eq e k v]
    rfl

/-! ## An evaluated arrival before its schedule (R51, R61) -/

/-- An arrival at entry e: valid with its raw value, or invalid. -/
def State.evaluate (s : State) (e : Nat) (raw : Option Int) : Evaluated :=
  match raw with
  | some v => s.evaluateValid e v
  | none => s.evaluateInvalid e

/-- The verdict of an arrival written into a run state; the schedule has yet to count it. -/
def ConfigRecord.judged (r : ConfigRecord) (x : RunState) (raw : Option Int) (y : RunState) : RunState :=
  { y with
    condition := (r.verdictOf x raw).condition
    persistence := (r.verdictOf x raw).persistence
    age := 0
    lastValue := match raw with | some v => some (r.evaluated v) | none => y.lastValue }

/-- An arrival raises its verdict's events in order and writes the verdict, valid or not. -/
theorem State.evaluate_state (s : State) (e : Nat) (raw : Option Int) :
    (s.evaluate e raw).state
      = (s.raiseChannels e (raw.map (s.entry e).live.evaluated)
            ((s.entry e).live.verdictOf (s.entry e).run raw).events).modifyRun e
          ((s.entry e).live.judged (s.entry e).run raw) := by
  cases raw with
  | some v => rfl
  | none =>
    unfold State.evaluate State.evaluateInvalid ConfigRecord.judged ConfigRecord.verdictOf
    by_cases h : (s.entry e).run.condition = .stale
    · simp only [h, if_true]
      rfl
    · simp only [h, if_false]
      exact s.modifyRun_congr e _ _ rfl

theorem State.evaluate_tag (s : State) (e : Nat) (raw : Option Int) :
    (s.evaluate e raw).tag = (s.entry e).live.tagOf (s.entry e).run raw := by
  cases raw with
  | some v => rfl
  | none =>
    unfold State.evaluate State.evaluateInvalid
    dsimp only
    split <;> rfl

theorem State.evaluate_raised (s : State) (e : Nat) (raw : Option Int) :
    (s.evaluate e raw).raised = !((s.entry e).live.verdictOf (s.entry e).run raw).events.isEmpty := by
  cases raw with
  | some v => rfl
  | none =>
    unfold State.evaluate State.evaluateInvalid ConfigRecord.verdictOf
    dsimp only
    split <;> rfl

/-! ## Watched entries -/

/-- An entry that the timebase watches is one of the table. -/
theorem State.watched_lt (s : State) (e : Nat) (h : s.watched e = true) : e < s.table.length := by
  by_contra hlt
  obtain ⟨-, henable, -⟩ := (s.watched_iff e).mp h
  rw [s.entry_of_le e (Nat.le_of_not_lt hlt)] at henable
  exact absurd henable (by decide)

theorem State.evaluate_live (s : State) (e i : Nat) (raw : Option Int) :
    ((s.evaluate e raw).state.entry i).live = (s.entry i).live := by
  rw [s.evaluate_state e raw, (State.modifyRun_slots _ e i _).1, s.raiseChannels_live]

theorem State.evaluate_map (s : State) (e : Nat) (raw : Option Int) : (s.evaluate e raw).state.map = s.map := by
  rw [s.evaluate_state e raw, s.raiseChannels_eq]
  rfl

theorem State.raiseChannels_works (s : State) (e : Nat) (v : Option Int) (kinds : List EventKind) :
    Works s (s.raiseChannels e v kinds) :=
  Works.foldl _ (fun u k => .single (u.raiseChannel_work e k v)) kinds s

/-- The verdict of an arrival keeps the persistence law (R32, Table 32). -/
theorem ConfigRecord.verdictOf_countOk (r : ConfigRecord) (e : Nat) (x : RunState) (raw : Option Int) (hr : r.stored e)
    (hk : r.countOk x.condition x.persistence = true) :
    r.countOk (r.verdictOf x raw).condition (r.verdictOf x raw).persistence = true := by
  obtain ⟨-, -, -, henter, -, hreturn, -⟩ := hr
  cases raw with
  | some v => exact r.judge_countOk _ _ _ henter hreturn hk
  | none =>
    unfold ConfigRecord.verdictOf
    dsimp only
    split
    · rfl
    · exact hk

/-- An evaluated arrival at a watched entry, as updates of the claim. -/
theorem State.evaluate_works (s : State) (e : Nat) (raw : Option Int) (hw : s.watched e = true) :
    Works s (s.evaluate e raw).state := by
  rw [s.evaluate_state e raw]
  refine .tail (s.raiseChannels_works e _ _) (.run _ e _ (fun r => ⟨rfl, rfl⟩) ?_)
  rintro ⟨hstored, -, hpos, hcount, -, -, hsplit, htally, -⟩
  have hself := s.raiseChannels_entry_self e (raw.map (s.entry e).live.evaluated)
    ((s.entry e).live.verdictOf (s.entry e).run raw).events (s.watched_lt e hw)
  have hmap : (s.raiseChannels e (raw.map (s.entry e).live.evaluated)
      ((s.entry e).live.verdictOf (s.entry e).run raw).events).map = s.map := by rw [s.raiseChannels_eq]
  refine ⟨hpos, ?_, fun hn => ?_, by simp [ConfigRecord.judged], hsplit, htally⟩
  · rw [hself] at hcount hstored ⊢
    exact (s.entry e).live.verdictOf_countOk e (s.entry e).run raw hstored hcount
  · rw [State.watched_congr s _ e hmap fun i => s.raiseChannels_live e i _ _, hw] at hn
    simp at hn

/-! ## The switch at a schedule boundary (R66, R103) -/

theorem State.boundarySwitch_works (s : State) (e : Nat) : Works s (s.boundarySwitch e) := by
  unfold State.boundarySwitch
  split
  · rename_i h
    simp only [Bool.and_eq_true, beq_iff_eq, Bool.not_eq_true'] at h
    exact (s.switchUnit_works e false (.inr ⟨h.2, h.1.2⟩)).trans (State.completeIfEmpty_works _)
  · exact .refl

@[simp] theorem State.completeIfEmpty_table (s : State) : s.completeIfEmpty.table = s.table := by
  unfold State.completeIfEmpty
  split <;> simp

/-- A switch of a unit puts the staging records of its entries in their live slots (R101). -/
theorem State.switchUnit_live (s : State) (e i : Nat) (b : Bool) :
    ((s.switchUnit e b).entry i).live = if i ∈ s.unit e then (s.entry i).staging else (s.entry i).live := by
  by_cases hi : i < s.table.length
  · unfold State.switchUnit
    rw [s.switchEntries_entry _ b i hi]
    by_cases hmem : i ∈ s.unit e
    · simp [hmem, s.switchedEntry_live]
    · simp [hmem]
  · have hle : s.table.length ≤ i := Nat.le_of_not_lt hi
    rw [State.entry_of_le _ i (by simpa [State.switchUnit] using hle), s.entry_of_le i hle]
    split <;> rfl

/-- The records a boundary leaves: those it found, or the staging records of the unit whose lower entry reached it. -/
theorem State.boundarySwitch_live (s : State) (e : Nat) :
    (∀ i, ((s.boundarySwitch e).entry i).live = (s.entry i).live)
      ∨ (s.unitUpper e = false
        ∧ ∀ i, ((s.boundarySwitch e).entry i).live
            = if i ∈ s.unit e then (s.entry i).staging else (s.entry i).live) := by
  unfold State.boundarySwitch
  split
  · rename_i h
    simp only [Bool.and_eq_true, beq_iff_eq, Bool.not_eq_true'] at h
    refine .inr ⟨h.2, fun i => ?_⟩
    rw [State.entry_congr (s.switchUnit e false) _ i (State.completeIfEmpty_table _), s.switchUnit_live]
  · exact .inl fun _ => rfl

theorem State.boundarySwitch_map (s : State) (e : Nat) : (s.boundarySwitch e).map = s.map := by
  unfold State.boundarySwitch
  split <;> simp

/-- An entry outside the unit that a boundary switches stays watched, and so does one of the unit where the switch leaves the
enable and pair fields of its lower entry (R66). -/
theorem State.boundarySwitch_watched (s : State) (e i : Nat) (hw : s.watched i = true)
    (h : (((s.boundarySwitch e).entry e).live.enable = (s.entry e).live.enable
        ∧ ((s.boundarySwitch e).entry e).live.pair = (s.entry e).live.pair) ∨ i ∉ s.unit e) :
    (s.boundarySwitch e).watched i = true := by
  rcases s.boundarySwitch_live e with hlive | ⟨hlower, hlive⟩
  · rwa [State.watched_congr s _ i (s.boundarySwitch_map e) hlive]
  obtain ⟨hmapped, henable, hpaired⟩ := (s.watched_iff i).mp hw
  have hunit : s.unitLower e = e := s.unitLower_of_lower e hlower
  have he : ((s.boundarySwitch e).entry e).live = (s.entry e).staging := by
    rw [hlive e, if_pos (s.mem_unit_self e)]
  -- an upper entry of the unit was no paired half, so the switch begins its pairing
  have hupper : s.unitUpper i = true → i - 1 = e → i ∉ s.unit e := by
    intro hu hie
    refine h.resolve_left fun ⟨_, hpair⟩ => ?_
    obtain ⟨hodd, hor⟩ := (s.unitUpper_iff i).mp hu
    have hno : (s.entry e).live.pair = false := by
      simpa [State.pairedUpper, hodd, hie] using hpaired
    rw [hie, hno] at hor
    rw [he, hno] at hpair
    simp [hpair] at hor
  have hmem : i ∈ s.unit e → i = e := by
    intro hi
    rcases (s.mem_unit_iff e i).mp hi with hl | ⟨hu, hie⟩
    · rw [hl, hunit]
    · exact absurd hi (hupper hu (hie.trans hunit))
  refine ((s.boundarySwitch e).watched_iff i).mpr ⟨?_, ?_, ?_⟩
  · simpa [State.mapped, s.boundarySwitch_map e] using hmapped
  · by_cases hi : i ∈ s.unit e
    · have hie := hmem hi
      subst hie
      rcases h with h | h
      · rw [h.1, henable]
      · exact absurd hi h
    · rw [hlive i, if_neg hi, henable]
  · rw [Bool.eq_false_iff, ne_eq, State.pairedUpper_iff]
    rintro ⟨hodd, hpair⟩
    rw [hlive (i - 1)] at hpair
    split_ifs at hpair with hin
    · have hu : s.unitUpper i = true := (s.unitUpper_iff i).mpr ⟨hodd, .inr hpair⟩
      have hi : i ∈ s.unit e := (s.mem_unit_upper e i hu).mpr hin
      rw [hmem hi, hlower] at hu
      simp at hu
    · have := (s.pairedUpper_iff i).mpr ⟨hodd, hpair⟩
      simp [hpaired] at this

/-! ## The arrivals of a claim (R47, R66) -/

/-- Every arrival to come is of a closed unit or of a watched entry. -/
def FrameClaim.Covers (c : FrameClaim) (l : List Arrival) : Prop :=
  ∀ a ∈ l, a.entry ∈ c.closed ∨ c.state.watched a.entry = true

/-- An arrival that is no split half is evaluated at its entry and goes to the schedule. -/
theorem FrameClaim.take_eq_schedule (c : FrameClaim) (a : Arrival) (hopen : a.entry ∉ c.closed)
    (hsplit : ∀ e i, a ≠ .split e i) :
    ∃ places raw, c.take a = c.schedule a.entry places (c.state.evaluate a.entry raw) := by
  unfold FrameClaim.take
  rw [if_neg (by simpa using hopen)]
  cases a with
  | split e i => exact absurd rfl (hsplit e i)
  | single e i =>
    refine ⟨[i], if (c.sampleAt i).valid then some (c.sampleAt i).value.toInt else none, ?_⟩
    dsimp only [Arrival.entry]
    split <;> rfl
  | matched e i j =>
    refine ⟨[i, j], if (c.sampleAt i).valid && (c.sampleAt j).valid
      then some (pairValue (c.sampleAt i).value (c.sampleAt j).value) else none, ?_⟩
    dsimp only [Arrival.entry]
    split <;> rfl

/-- The schedule's step of an evaluated arrival, as updates of the claim. -/
theorem FrameClaim.schedule_works (c : FrameClaim) (e : Nat) (places : List Nat) (raw : Option Int)
    (hw : c.state.watched e = true) : Works c.state (c.schedule e places (c.state.evaluate e raw)).state := by
  have hlive := c.state.evaluate_live e e raw
  refine .trans (b := (c.state.evaluate e raw).state.modifyRun e (c.state.entry e).live.count) ?_
    (State.boundarySwitch_works _ e)
  refine .tail (c.state.evaluate_works e raw hw) (.run _ e _ (fun r => ⟨rfl, rfl⟩) ?_)
  rintro ⟨-, -, hpos, hcount, hidle, hage, hsplit, htally, -⟩
  refine ⟨?_, hcount, fun hn => ?_, hage, hsplit, htally⟩
  · rw [hlive] at hpos ⊢
    exact ConfigRecord.advance_lt _ _ hpos
  · rw [State.watched_congr c.state _ e (c.state.evaluate_map e raw) fun i => c.state.evaluate_live e i raw, hw] at hn
    simp at hn

/-- What the schedule's step leaves watched: every entry of a unit not closed (R66). -/
theorem FrameClaim.schedule_covers (c : FrameClaim) (e : Nat) (places : List Nat) (raw : Option Int) (l : List Arrival)
    (hl : c.Covers l) : (c.schedule e places (c.state.evaluate e raw)).Covers l := by
  intro a ha
  have hlive : ∀ i, (((c.state.evaluate e raw).state.modifyRun e (c.state.entry e).live.count).entry i).live
      = (c.state.entry i).live := fun i => by
    rw [(State.modifyRun_slots _ e i _).1, c.state.evaluate_live]
  have hmap : ((c.state.evaluate e raw).state.modifyRun e (c.state.entry e).live.count).map = c.state.map :=
    c.state.evaluate_map e raw
  unfold FrameClaim.schedule
  dsimp only
  generalize (c.state.evaluate e raw).state.modifyRun e (c.state.entry e).live.count = t at hlive hmap
  rcases hl a ha with hclosed | hw
  · left
    split
    · exact hclosed
    · exact List.mem_append_right _ hclosed
  · have hw : t.watched a.entry = true := by rwa [State.watched_congr c.state t a.entry hmap hlive]
    rw [← hlive e]
    by_cases hsame : ((t.boundarySwitch e).entry e).live.enable = (t.entry e).live.enable
        ∧ ((t.boundarySwitch e).entry e).live.pair = (t.entry e).live.pair
    · exact .inr (t.boundarySwitch_watched e a.entry hw (.inl hsame))
    · rw [if_neg hsame]
      by_cases hmem : a.entry ∈ t.unit e
      · exact .inl (List.mem_append_left _ hmem)
      · exact .inr (t.boundarySwitch_watched e a.entry hw (.inr hmem))

/-- A split half, as updates of the claim (R50). -/
theorem State.splitHalf_works (s : State) (e : Nat) : Works s (s.splitHalf e) := by
  have hrun : Work s (s.modifyRun e fun x =>
      { x with age := 0, splitCount := satAdd Config.byteMax x.splitCount 1 }) :=
    .run s e _ (fun r => ⟨rfl, rfl⟩) fun ⟨_, _, hpos, hcount, hidle, _, _, htally, _⟩ =>
      ⟨hpos, hcount, fun hn => ⟨(hidle hn).1, (hidle hn).2.1, rfl⟩, by simp, by simp [satAdd], htally⟩
  exact .tail (.single hrun) (State.raiseChannel_work _ e _ _)

/-- One arrival, as updates of the claim; the arrivals to come stay covered. -/
theorem FrameClaim.take_works (c : FrameClaim) (a : Arrival) (l : List Arrival) (hc : c.Covers (a :: l)) :
    Works c.state (c.take a).state ∧ (c.take a).Covers l := by
  have hl : c.Covers l := fun b hb => hc b (List.mem_cons_of_mem a hb)
  by_cases hopen : a.entry ∈ c.closed
  · rw [show c.take a = c by simp [FrameClaim.take, hopen]]
    exact ⟨.refl, hl⟩
  by_cases hsplit : ∃ e i, a = .split e i
  · obtain ⟨e, i, rfl⟩ := hsplit
    have htake : c.take (.split e i) = { c with state := c.state.splitHalf e } := by
      unfold FrameClaim.take
      rw [if_neg (by simpa using hopen)]
    rw [htake]
    refine ⟨c.state.splitHalf_works e, fun b hb => (hl b hb).imp_right fun hw => ?_⟩
    rwa [State.watched_congr c.state _ b.entry (by simp [State.splitHalf]) fun i => by
      rw [State.splitHalf, State.raiseChannel_live, (State.modifyRun_slots _ e i _).1]]
  · have hw : c.state.watched a.entry = true := (hc a (List.mem_cons_self)).resolve_left hopen
    obtain ⟨places, raw, htake⟩ := c.take_eq_schedule a hopen (by simpa using hsplit)
    rw [htake]
    exact ⟨c.schedule_works a.entry places raw hw, c.schedule_covers a.entry places raw l hl⟩

theorem FrameClaim.takes_works (c : FrameClaim) (l : List Arrival) (hc : c.Covers l) :
    Works c.state (l.foldl FrameClaim.take c).state := by
  induction l generalizing c with
  | nil => exact .refl
  | cons a rest ih =>
    obtain ⟨hworks, hrest⟩ := c.take_works a rest hc
    exact hworks.trans (ih (c.take a) hrest)

/-- An arrival of a frame has a role of the frame's: its own, or that of a half of its pair. -/
theorem arrivalsOf_role (roles : List Role) (a : Arrival) (h : a ∈ arrivalsOf roles) :
    .single a.entry ∈ roles ∨ .lower a.entry ∈ roles ∨ .upper a.entry ∈ roles := by
  obtain ⟨i, hi, ha⟩ := List.mem_filterMap.mp h
  have hi : i < roles.length := List.mem_range.mp hi
  have hmem : roles.getD i .untouched ∈ roles := by
    rw [List.getD_eq_getElem?_getD, List.getElem?_eq_getElem hi]
    exact List.getElem_mem hi
  unfold arrivalAt at ha
  split at ha
  · simp at ha
  · rename_i e hrole
    rw [hrole] at hmem
    obtain rfl := Option.some.inj ha
    exact .inl hmem
  · rename_i e hrole
    rw [hrole] at hmem
    split at ha
    · split at ha
      · obtain rfl := Option.some.inj ha
        exact .inr (.inl hmem)
      · simp at ha
    · obtain rfl := Option.some.inj ha
      exact .inr (.inl hmem)
  · rename_i e hrole
    rw [hrole] at hmem
    split at ha
    · split at ha
      · obtain rfl := Option.some.inj ha
        exact .inr (.inr hmem)
      · simp at ha
    · obtain rfl := Option.some.inj ha
      exact .inr (.inr hmem)

/-- A key that the map finds maps its entry. -/
theorem State.mapped_of_lookup (s : State) (node channel e : Nat) (h : s.lookup node channel = some e) :
    s.mapped e = true := by
  unfold State.lookup at h
  obtain ⟨k, hk, rfl⟩ := Option.map_eq_some_iff.mp h
  exact List.any_eq_true.mpr ⟨k, List.mem_of_find?_eq_some hk, by simp⟩

/-- Every entry that a role names is watched (Table 31). -/
theorem State.roleOf_watched (s : State) (node : Nat) (x : Sample) (e : Nat)
    (h : s.roleOf node x = .single e ∨ s.roleOf node x = .lower e ∨ s.roleOf node x = .upper e) :
    s.watched e = true := by
  unfold State.roleOf at h
  split at h
  · simp at h
  split at h
  · simp at h
  rename_i f hf
  have hmapped := s.mapped_of_lookup node x.channel f hf
  rw [s.watched_iff]
  split at h
  · rename_i hpaired
    split at h
    · rename_i hlow
      simp only [reduceCtorEq, Role.upper.injEq, false_or] at h
      subst h
      obtain ⟨hodd, -⟩ := (s.pairedUpper_iff f).mp hpaired
      simp only [Bool.and_eq_true] at hlow
      refine ⟨hlow.1, hlow.2, ?_⟩
      rw [Bool.eq_false_iff, ne_eq, s.pairedUpper_iff]
      omega
    · simp at h
  · rename_i hpaired
    split at h
    · rename_i henable
      split at h <;>
      · simp only [reduceCtorEq, Role.lower.injEq, Role.single.injEq, false_or, or_false] at h
        subst h
        exact ⟨hmapped, henable, by simpa using hpaired⟩
    · simp at h

/-- The arrivals of a frame, as updates of the claim. -/
theorem State.claimFrame_works (s : State) (bytes : List Byte) : Works s (s.claimFrame bytes).state := by
  unfold State.claimFrame
  dsimp only
  refine FrameClaim.takes_works ⟨s, _, [], false⟩ _ fun a ha => .inr ?_
  rcases arrivalsOf_role _ a ha with h | h | h <;> obtain ⟨x, -, hx⟩ := List.mem_map.mp h
  · exact s.roleOf_watched _ x a.entry (.inl hx)
  · exact s.roleOf_watched _ x a.entry (.inr (.inl hx))
  · exact s.roleOf_watched _ x a.entry (.inr (.inr hx))

end Sys2Proof.Machine
end

section
/-! SUPPORT. The unacknowledged list (R125): what keeps its law, and what leaves it. -/

namespace Sys2Proof.Machine

open Sys2Proof Relation

/-! ## The sequences of the list -/

/-- The sequences of the list are consecutive, the newest one less than the next (R125). -/
def sequencesOk (l : List ReportFrame) (next : Byte) : Prop :=
  l.map (·.sequence) = (List.range l.length).map fun i => next - BitVec.ofNat 8 (l.length - i)

theorem sequencesOk_nil (next : Byte) : sequencesOk [] next := rfl

theorem sequencesOk_cons (f : ReportFrame) (rest : List ReportFrame) (next : Byte) :
    sequencesOk (f :: rest) next ↔ f.sequence = next - BitVec.ofNat 8 (rest.length + 1) ∧ sequencesOk rest next := by
  unfold sequencesOk
  rw [List.length_cons, List.range_succ_eq_map]
  simp [Function.comp_def]

theorem sequencesOk_suffix (older newer : List ReportFrame) (next : Byte) (h : sequencesOk (older ++ newer) next) :
    sequencesOk newer next := by
  induction older with
  | nil => exact h
  | cons f rest ih => exact ih ((sequencesOk_cons f _ next).mp h).2

/-- A new frame under the next sequence continues the list (R124). -/
theorem sequencesOk_append (l : List ReportFrame) (f : ReportFrame) (next : Byte) (h : sequencesOk l next)
    (hf : f.sequence = next) : sequencesOk (l ++ [f]) (next + 1) := by
  induction l with
  | nil =>
    refine (sequencesOk_cons f [] _).mpr ⟨?_, sequencesOk_nil _⟩
    rw [hf]
    simp
  | cons x rest ih =>
    obtain ⟨hx, hrest⟩ := (sequencesOk_cons x rest next).mp h
    refine (sequencesOk_cons x (rest ++ [f]) _).mpr ⟨?_, ih hrest⟩
    rw [hx, List.length_append, List.length_singleton]
    bv_omega

/-- A change to frames that keeps their sequences keeps the order of the list. -/
theorem sequencesOk_map (l : List ReportFrame) (g : ReportFrame → ReportFrame) (next : Byte)
    (hg : ∀ f, (g f).sequence = f.sequence) : sequencesOk (l.map g) next ↔ sequencesOk l next := by
  unfold sequencesOk
  simp [Function.comp_def, hg]

theorem sequencesOk_mem (l : List ReportFrame) (next : Byte) (h : sequencesOk l next) (f : ReportFrame) (hf : f ∈ l) :
    ∃ k, 1 ≤ k ∧ k ≤ l.length ∧ f.sequence = next - BitVec.ofNat 8 k := by
  induction l with
  | nil => simp at hf
  | cons x rest ih =>
    obtain ⟨hx, hrest⟩ := (sequencesOk_cons x rest next).mp h
    rcases List.mem_cons.mp hf with rfl | hf
    · exact ⟨rest.length + 1, by omega, by simp, hx⟩
    · obtain ⟨k, h1, hk, hseq⟩ := ih hrest hf
      exact ⟨k, h1, by simp; omega, hseq⟩

/-- No two frames of a list of at most four share a sequence. -/
theorem sequencesOk_distinct (l : List ReportFrame) (next : Byte) (h : sequencesOk l next) (hl : l.length ≤ 4) :
    (l.map (·.sequence)).Nodup := by
  induction l with
  | nil => simp
  | cons x rest ih =>
    obtain ⟨hx, hrest⟩ := (sequencesOk_cons x rest next).mp h
    have hlen : rest.length ≤ 3 := by simp at hl; omega
    rw [List.map_cons, List.nodup_cons]
    refine ⟨fun hmem => ?_, ih hrest (by omega)⟩
    obtain ⟨f, hf, hseq⟩ := List.mem_map.mp hmem
    obtain ⟨k, -, hk, hfk⟩ := sequencesOk_mem rest next hrest f hf
    have heq : BitVec.ofNat 8 k = BitVec.ofNat 8 (rest.length + 1) := by
      have : next - BitVec.ofNat 8 k = next - BitVec.ofNat 8 (rest.length + 1) := by rw [← hfk, ← hx, hseq]
      bv_omega
    have := congrArg BitVec.toNat heq
    simp only [BitVec.toNat_ofNat] at this
    omega

/-! ## What keeps the law of the list -/

/-- What R125 and Table 49 ask of one frame of the list. -/
def ReportFrame.Listed (f : ReportFrame) : Prop :=
  1 ≤ f.records.length ∧ f.records.length ≤ 4 ∧ 1 ≤ f.sendCount ∧ f.sendCount ≤ 16 ∧ (f.due = true → f.sendCount ≤ 15)

theorem State.listLaw_iff (s : State) :
    s.listLaw ↔ s.report.unacked.length ≤ 4 ∧ sequencesOk s.report.unacked s.report.nextSequence
      ∧ (∀ f ∈ s.report.unacked, f.Listed) ∧ s.agent.settings.retryLimit ≤ 15 :=
  Iff.rfl

/-- A newer part of the list keeps its law (R128, R129). -/
theorem State.listLaw_suffix (s : State) (older newer : List ReportFrame) (hl : s.report.unacked = older ++ newer)
    (h : s.listLaw) :
    { s with report := { s.report with unacked := newer, nextSequence := s.report.nextSequence } }.listLaw := by
  obtain ⟨hlen, hseq, hframes, hlimit⟩ := s.listLaw_iff.mp h
  rw [hl] at hlen hseq hframes
  refine (State.listLaw_iff _).mpr
    ⟨?_, sequencesOk_suffix older newer _ hseq, fun f hf => hframes f (List.mem_append_right _ hf), hlimit⟩
  simp only [List.length_append] at hlen
  exact Nat.le_trans (Nat.le_add_left _ _) hlen

/-- A change to frames that keeps their sequences and what each owes the law keeps it. -/
theorem State.listLaw_map (s : State) (g : ReportFrame → ReportFrame) (hseq : ∀ f, (g f).sequence = f.sequence)
    (hlisted : s.listLaw → ∀ f ∈ s.report.unacked, f.Listed → (g f).Listed) (h : s.listLaw) :
    { s with report := { s.report with
        unacked := s.report.unacked.map g, nextSequence := s.report.nextSequence } }.listLaw := by
  obtain ⟨hlen, hs, hframes, hlimit⟩ := s.listLaw_iff.mp h
  refine (State.listLaw_iff _).mpr ⟨by simpa using hlen, (sequencesOk_map _ g _ hseq).mpr hs, fun f hf => ?_, hlimit⟩
  obtain ⟨x, hx, rfl⟩ := List.mem_map.mp hf
  exact hlisted h x hx (hframes x hx)

/-- In a list that keeps its law a frame is known by its sequence. -/
theorem State.listLaw_unique (s : State) (h : s.listLaw) (f g : ReportFrame) (hf : f ∈ s.report.unacked)
    (hg : g ∈ s.report.unacked) (heq : f.sequence = g.sequence) : f = g := by
  obtain ⟨hlen, hs, -⟩ := s.listLaw_iff.mp h
  exact List.inj_on_of_nodup_map (sequencesOk_distinct _ _ hs hlen) hf hg heq

/-- The list after an update that only drops older frames. -/
theorem State.dropOlder_act (s : State) (older newer : List ReportFrame) (hl : s.report.unacked = older ++ newer) :
    Act s { s with report := { s.report with unacked := newer } } := by
  refine .list s newer s.report.nextSequence (s.listLaw_suffix older newer hl) fun _ hnil => ?_
  rw [hl] at hnil
  exact (List.append_eq_nil_iff.mp hnil).2

/-- The list after a change to its frames that keeps its law. -/
theorem State.mapFrames_act (s : State) (g : ReportFrame → ReportFrame) (hseq : ∀ f, (g f).sequence = f.sequence)
    (hlisted : s.listLaw → ∀ f ∈ s.report.unacked, f.Listed → (g f).Listed) :
    Act s { s with report := { s.report with unacked := s.report.unacked.map g } } :=
  .list s _ s.report.nextSequence (s.listLaw_map g hseq hlisted) fun _ hnil => by simp [hnil]

theorem splitThrough_eq_append (p : ReportFrame → Bool) (l : List ReportFrame) :
    l = (splitThrough p l).1 ++ (splitThrough p l).2 := by
  induction l with
  | nil => rfl
  | cons f rest ih =>
    unfold splitThrough
    split
    · rfl
    · simpa using ih

theorem State.loseFrames_acts (s : State) (frames : List ReportFrame) : Acts s (s.loseFrames frames) := by
  unfold State.loseFrames
  induction frames generalizing s with
  | nil => exact .refl
  | cons f rest ih => exact .head (.core (.lose s _)) (ih _)

/-! ## The retry step and the expiries (R126 to R128) -/

theorem State.retryStep_act (s : State) : Act s s.retryStep := by
  refine s.mapFrames_act _ (fun f => ?_) fun _ f _ hf => ?_
  · unfold State.retryFrame; split <;> rfl
  · unfold State.retryFrame; split <;> exact hf

theorem State.expire_acts (s : State) (sequence : Byte) : Acts s (s.expire sequence) := by
  unfold State.expire
  split
  · exact .refl
  rename_i f hf
  have hmem : f ∈ s.report.unacked := List.mem_of_find?_eq_some hf
  have hseq : f.sequence = sequence ∧ f.expired = true := by simpa using List.find?_some hf
  split
  · rename_i hsends
    refine .single (s.mapFrames_act _ (fun x => by split <;> rfl) fun hlaw x hx hlisted => ?_)
    obtain ⟨-, -, -, hlimit⟩ := s.listLaw_iff.mp hlaw
    split
    · rename_i hx'
      have hxf : x = f := s.listLaw_unique hlaw x f hx hmem (by simp_all)
      obtain ⟨h1, h4, hs1, hs16, -⟩ := hlisted
      exact ⟨h1, h4, hs1, hs16, fun _ => by subst hxf; show x.sendCount ≤ 15; omega⟩
    · exact hlisted
  · exact .head (s.dropOlder_act _ _ (splitThrough_eq_append _ _)) (State.loseFrames_acts _ _)

/-! ## The work of a tick -/

theorem State.finishStale_acts (s : State) : Acts s s.finishStale := by
  unfold State.finishStale
  split
  · exact .refl
  · exact .single (.core (.claim _ _ (.tail (Works.foldl _ State.makeStale_works s.staleDue s) (.due _ [] fun _ => rfl))))

theorem State.staleUpTo_acts (s : State) (e : Nat) : Acts s (s.staleUpTo e) := by
  have hworks := Works.foldl _ State.makeStale_works (s.staleDue.takeWhile fun i => i ≤ e) s
  unfold State.staleUpTo
  dsimp only
  split
  · rename_i hnil
    refine .single (.core (.claim _ _ (.tail hworks (.due _ _ fun _ => by simpa using hnil))))
  · rename_i hne
    refine .single (.core (.stale _ _ _ (fun hnil => hne (by simp [hnil])) (by simpa using hne) hworks))

theorem State.forceIfDue_acts (s : State) : Acts s s.forceIfDue := by
  unfold State.forceIfDue
  split
  · exact .single (.core (.claim _ _ s.forceComplete_works))
  · exact .refl

theorem Acts.foldl {α : Type} (f : State → α → State) (h : ∀ s a, Acts s (f s a)) (l : List α) (s : State) :
    Acts s (l.foldl f s) := by
  induction l generalizing s with
  | nil => exact .refl
  | cons a rest ih => exact (h s a).trans (ih _)

theorem State.finishTick_acts (s : State) : Acts s s.finishTick :=
  (s.finishStale_acts.trans (State.forceIfDue_acts _)).trans (Acts.foldl _ State.expire_acts _ _)

theorem State.withdrawPromotion_acts (s : State) : Acts s s.withdrawPromotion := by
  unfold State.withdrawPromotion
  split
  · exact .refl
  · exact .single (.promotion s 0 fun _ => by omega)

end Sys2Proof.Machine
end

section
/-! SUPPORT. The receive sides, the resets and the management agent as updates of the device. -/

namespace Sys2Proof.Machine

open Sys2Proof Relation

/-! ## Receive sides -/

theorem RxSide.wf_iff (r : RxSide) :
    r.wf = true ↔ (∀ bytes, r.reception = .inFrame bytes → r.state = .up ∧ bytes.length ≤ 64)
      ∧ (r.reception = .refused → r.state = .up) ∧ (r.state = .down → r = RxSide.inDown) ∧ r.idleCount ≤ 32
      ∧ (r.state = .acquiring → r.idleCount < 32) := by
  obtain ⟨state, idle, silence, down, reception⟩ := r
  cases reception <;> cases state <;> simp [RxSide.wf, RxSide.inDown]
  omega

/-- A receive side between frames keeps its ranges wherever its state and idle count are those of one that does. -/
theorem RxSide.wf_between (r : RxSide) (hr : r.reception = .between) (hdown : r.state = .down → r = RxSide.inDown)
    (hidle : r.idleCount ≤ 32) (hacquiring : r.state = .acquiring → r.idleCount < 32) : r.wf = true :=
  r.wf_iff.mpr ⟨by simp [hr], by simp [hr], hdown, hidle, hacquiring⟩

theorem RxSide.inDown_wf : RxSide.inDown.wf = true := by decide

theorem RxSide.receiving_iff (r : RxSide) : r.receiving = true ↔ ∃ bytes, r.reception = .inFrame bytes := by
  unfold RxSide.receiving
  cases r.reception <;> simp

/-- Only a receive side in UP has a frame in reception. -/
theorem RxSide.not_receiving_of_between (r : RxSide) (h : r.reception = .between) : r.receiving = false := by
  simp [RxSide.receiving, h]

/-- A receive side that leaves a state other than DOWN, ending between frames. -/
theorem State.leaveReception_act (s : State) (p : Port) (r : RxSide) (hup : (s.port p).rx.state ≠ .down)
    (hr : r.reception = .between) (hwf : (s.port p).rx.wf = true → r.wf = true) : Act s (s.setRx p r) :=
  .rx s p r hwf (fun _ hdown => absurd (by rw [hdown]; rfl) hup)
    fun _ hopen => by simp [r.not_receiving_of_between hr] at hopen

@[simp] theorem State.port_setRx (s : State) (p : Port) (r : RxSide) : ((s.setRx p r).port p).rx = r := by cases p <;> rfl

@[simp] theorem State.setRx_setRx (s : State) (p : Port) (r r' : RxSide) : (s.setRx p r).setRx p r' = s.setRx p r' := by
  cases p <;> rfl

@[simp] theorem State.port_countDiscard (s : State) (p q : Port) : (s.countDiscard p).port q = s.port q := by
  cases p <;> cases q <;> rfl

theorem State.raiseFieldLine_act (s : State) (kind : EventKind) : Act s (s.raiseFieldLine kind) :=
  .core (.raise s _ (by simp) (by simp) (.inl rfl))

/-- The counters stay in their range (R161). -/
theorem countUp_le (n : Nat) : countUp n ≤ 65535 := by simp [countUp, satAdd, Config.counterMax]

theorem State.countDiscard_act (s : State) (p : Port) : Act s (s.countDiscard p) := by
  cases p
  · exact .counters s _ fun ⟨h1, h2, h3, h4, h5, h6, h7, h8, _, h10, h11⟩ =>
      ⟨h1, h2, h3, h4, h5, h6, h7, h8, countUp_le _, h10, h11⟩
  · exact .counters s _ fun ⟨h1, h2, h3, h4, h5, h6, _, h8, h9, h10, h11⟩ =>
      ⟨h1, h2, h3, h4, h5, h6, countUp_le _, h8, h9, h10, h11⟩

theorem State.countInboundDrop_act (s : State) : Act s s.countInboundDrop :=
  .counters s _ fun ⟨h1, h2, h3, h4, h5, h6, h7, _, h9, h10, h11⟩ =>
    ⟨h1, h2, h3, h4, h5, h6, h7, countUp_le _, h9, h10, h11⟩

theorem State.countOutboundDrop_act (s : State) : Act s s.countOutboundDrop :=
  .counters s _ fun ⟨h1, h2, h3, h4, h5, h6, h7, h8, h9, _, h11⟩ =>
    ⟨h1, h2, h3, h4, h5, h6, h7, h8, h9, countUp_le _, h11⟩

theorem State.countDroppedRequest_act (s : State) : Act s s.countDroppedRequest :=
  .counters s _ fun ⟨h1, h2, h3, h4, h5, h6, h7, h8, h9, h10, _⟩ =>
    ⟨h1, h2, h3, h4, h5, h6, h7, h8, h9, h10, countUp_le _⟩

/-- A frame in reception is counted where there is one, and leaves the receive side as it was. -/
theorem State.countIfReceiving_acts (s : State) (p : Port) :
    Acts s (if (s.port p).rx.receiving then s.countDiscard p else s) := by
  split
  · exact .single (s.countDiscard_act p)
  · exact .refl

theorem State.firstSymbol_acts (s : State) (p : Port) (y : Symbol) : Acts s (s.firstSymbol p y) := by
  unfold State.firstSymbol
  split
  · rename_i h
    simp only [Bool.and_eq_true] at h
    refine .single (.rx s p _ (fun _ => ?_) (fun hrun => absurd h.1 (by simp [hrun])) fun _ hopen => ?_)
    · refine RxSide.wf_between _ rfl (by simp) ?_ fun _ => ?_ <;> dsimp only <;> split <;> omega
    · simp [RxSide.receiving, RxSide.inDown] at hopen
  · exact .refl

theorem State.acquired_acts (s : State) (p : Port) : Acts s (s.acquired p) := by
  unfold State.acquired
  split
  · rename_i h
    have hrx : Act s (s.setRx p { RxSide.inDown with state := .up, idleCount := Config.idleRunLength }) :=
      s.leaveReception_act p _ (by simp [h]) rfl fun _ => by decide
    cases p
    · exact .single hrx
    · exact .tail (.single hrx) (State.raiseFieldLine_act _ _)
  · exact .refl

theorem State.acquisitionLost_acts (s : State) (p : Port) : Acts s (s.acquisitionLost p) := by
  unfold State.acquisitionLost
  split
  · rename_i h
    have hrx : Act s (s.setRx p RxSide.inDown) := s.leaveReception_act p _ (by simp [h]) rfl fun _ => by decide
    cases p
    · exact .single hrx
    · exact .tail (.single hrx) (State.raiseFieldLine_act _ _)
  · exact .refl

theorem State.interrupted_acts (s : State) (p : Port) : Acts s (s.interrupted p) := by
  unfold State.interrupted
  dsimp only
  split
  · rename_i h
    refine .trans (s.countIfReceiving_acts p) (.single (State.leaveReception_act _ p _ ?_ rfl fun hwf => ?_))
    · split <;> simp [h]
    · have hidle : (s.port p).rx.idleCount ≤ 32 := by
        split at hwf <;> obtain ⟨-, -, -, hidle, -⟩ := (RxSide.wf_iff _).mp hwf <;> simpa using hidle
      exact RxSide.wf_between _ rfl (by simp) hidle (by simp)
  · exact .refl

theorem State.resumed_acts (s : State) (p : Port) : Acts s (s.resumed p) := by
  unfold State.resumed
  dsimp only
  split
  · rename_i h
    refine .single (s.leaveReception_act p _ (by simp [h]) rfl fun hwf => ?_)
    obtain ⟨-, -, -, hidle, -⟩ := (RxSide.wf_iff _).mp hwf
    exact RxSide.wf_between _ rfl (by simp) hidle (by simp)
  · exact .refl

/-- A receive side in UP goes on between frames, with the idle count it had. -/
theorem State.stayUp_act (s : State) (p : Port) (n : Nat) (h : (s.port p).rx.state = .up) :
    Act s (s.setRx p { (s.port p).rx with silence := n, reception := .between }) := by
  refine s.leaveReception_act p _ (by simp [h]) rfl fun hwf => ?_
  obtain ⟨-, -, -, hidle, -⟩ := (RxSide.wf_iff _).mp hwf
  exact RxSide.wf_between _ rfl (by simp [h]) hidle (by simp [h])

theorem State.closeReception_act (s : State) (p : Port) (h : (s.port p).rx.state = .up) : Act s (s.closeReception p) :=
  s.stayUp_act p 0 h

/-- The measurement of silence alone (R4). -/
theorem State.setSilence_act (s : State) (p : Port) (n : Nat) (h : (s.port p).rx.state = .up) :
    Act s (s.setRx p { (s.port p).rx with silence := n }) := by
  refine .rx s p _ (fun hwf => ?_) (fun _ hdown => by simp [hdown, RxSide.inDown] at h) fun hp hopen => .inl ?_
  · obtain ⟨hframe, hrefused, -, hidle, -⟩ := (RxSide.wf_iff _).mp hwf
    exact (RxSide.wf_iff _).mpr ⟨hframe, hrefused, by simp [h], hidle, by simp [h]⟩
  · subst hp
    exact hopen

/-- A frame in reception grows within its 64 bytes, or a new one opens where a buffer is free (R8). -/
theorem State.inFrame_act (s : State) (p : Port) (bytes : List Byte) (h : (s.port p).rx.state = .up)
    (hlen : bytes.length ≤ 64) (hroom : p = .f → s.fPort.rx.receiving = true ∨ s.inbound.length < 10) :
    Act s (s.setRx p { (s.port p).rx with silence := 0, reception := .inFrame bytes }) := by
  refine .rx s p _ (fun hwf => ?_) (fun _ hdown => by simp [hdown, RxSide.inDown] at h) fun hp _ => hroom hp
  obtain ⟨-, -, -, hidle, -⟩ := (RxSide.wf_iff _).mp hwf
  exact (RxSide.wf_iff _).mpr ⟨by simpa [h] using hlen, by simp, by simp [h], hidle, by simp [h]⟩

theorem State.openFrame_acts (s : State) (p : Port) : Acts s (s.openFrame p) := by
  unfold State.openFrame
  dsimp only
  split
  · rename_i h
    have hrx : ((if (s.port p).rx.receiving then s.countDiscard p else s).port p) = s.port p := by split <;> simp
    have hinbound : (if (s.port p).rx.receiving then s.countDiscard p else s).inbound = s.inbound := by split <;> simp
    refine .trans (s.countIfReceiving_acts p) ?_
    generalize (if (s.port p).rx.receiving then s.countDiscard p else s) = t at hrx hinbound
    rw [← hrx] at h ⊢
    cases p
    · exact .single (t.inFrame_act .h [] h (by simp) (by simp))
    · dsimp only
      split
      · rename_i hroom
        exact .single (t.inFrame_act .f [] h (by simp) fun _ => .inr (by simpa [hinbound] using hroom))
      · refine .tail (.single t.countInboundDrop_act) (.rx _ .f _ (fun hwf => ?_) (fun _ hdown => ?_) fun _ hopen => ?_)
        · obtain ⟨-, -, -, hidle, -⟩ := (RxSide.wf_iff _).mp hwf
          exact (RxSide.wf_iff _).mpr ⟨by simp, fun _ => h, by simp [h], hidle, by simp [h]⟩
        · have hd : (t.port .f).rx.state = .down := congrArg RxSide.state hdown
          simp [hd] at h
        · simp [RxSide.receiving] at hopen
  · exact .refl

theorem State.abandonFrame_acts (s : State) (p : Port) (cause : AbandonCause) : Acts s (s.abandonFrame p cause) := by
  unfold State.abandonFrame
  dsimp only
  split
  · rename_i h
    have hstay := (s.countDiscard p).stayUp_act p (if cause = .violation then (s.port p).rx.silence else 0) (by simp [h.1])
    rw [State.port_countDiscard] at hstay
    exact .tail (.single (s.countDiscard_act p)) hstay
  · exact .refl

theorem State.fFrameEnd_acts (s : State) (bytes : List Byte) : Acts s (s.fFrameEnd bytes) := by
  unfold State.fFrameEnd
  split
  · rename_i hup
    have hclose : Acts s (s.closeReception .f) := .single (s.closeReception_act .f hup)
    dsimp only
    split
    · rename_i hopen
      have hjoin : ∀ x : BufferState, x ≠ .inTransmission →
          Acts s { s.closeReception .f with inbound := s.inbound ++ [⟨x, bytes⟩] } := fun x hx =>
        .single (.join s ⟨x, bytes⟩ hx hup hopen)
      split
      · exact hjoin .pending (by simp)
      · exact hjoin .ready (by simp)
      · exact hjoin .ready (by simp)
      all_goals exact hclose.tail (State.countDiscard_act _ _)
    · exact hclose
  · exact .refl

/-! ## The resets (section 5.4 of the scope) -/

/-- A frame in reception is abandoned without a count (R17). -/
theorem State.abandonedRx_act (s : State) (p : Port) : Act s (s.setRx p (s.port p).rx.abandoned) := by
  refine .rx s p _ (fun hwf => ?_) (fun _ hdown => by simp [hdown, RxSide.abandoned, RxSide.inDown]) fun _ hopen => ?_
  · obtain ⟨-, -, hdown, hidle, hacq⟩ := (RxSide.wf_iff _).mp hwf
    exact RxSide.wf_between _ rfl (fun hd => by
      show RxSide.abandoned _ = _
      rw [hdown hd]; rfl) hidle hacq
  · simp [RxSide.abandoned, RxSide.receiving] at hopen

theorem State.emptyInbound_acts (s : State) : Acts s s.emptyInbound :=
  ((ReflTransGen.single (.inbound s [] (by simp) (by simp))).tail (State.abandonedRx_act _ .h)).tail
    (State.abandonedRx_act _ .f)

theorem State.emptyReports_acts (s : State) : Acts s s.emptyReports := by
  refine .tail (.single (.core (.queue s [] (by simp)))) (.list _ [] 0 (fun h => ?_) (by simp))
  obtain ⟨-, -, -, hlimit⟩ := State.listLaw_iff _ |>.mp h
  exact (State.listLaw_iff _).mpr ⟨by simp, sequencesOk_nil 0, by simp, hlimit⟩

theorem State.emptyAgent_acts (s : State) : Acts s s.emptyAgent :=
  (((ReflTransGen.single (.promotion s 0 (by omega))).tail (.responses _ [] (by simp))).tail (.forget _)).tail
    (.outbound _ [] (by simp))

theorem State.raiseRestarted_act (s : State) (c : ResetCause) : Act s (s.raiseRestarted c) :=
  .core (.raise s _ (by simp) (by simp) (.inl rfl))

theorem State.restart_acts (s : State) (c : ResetCause) : Acts s (s.restart c) :=
  (ReflTransGen.single (.cause s c)).tail (State.raiseRestarted_act _ c)

theorem State.wiped_act (s : State) : Act s s.forceForReset.clearRuns.clearGroups :=
  .core (.wipe s _ s.forceForReset_works s.forceForReset_pending)

theorem State.requestReset_acts (s : State) : Acts s s.requestReset :=
  (((((ReflTransGen.single s.wiped_act).trans (State.emptyInbound_acts _)).trans (State.emptyReports_acts _)).trans
    (State.emptyAgent_acts _))).trans (State.restart_acts _ _)

theorem Counters.zero_ranges : Counters.zero.fReceiveDiscards ≤ 65535 ∧ Counters.zero.inboundDrops ≤ 65535
    ∧ Counters.zero.hReceiveDiscards ≤ 65535 ∧ Counters.zero.outboundDrops ≤ 65535
    ∧ Counters.zero.droppedRequests ≤ 65535 := by decide

theorem State.clearCounters_act (s : State) : Act s { s with agent := { s.agent with counters := Counters.zero } } := by
  refine .counters s Counters.zero fun hlaw => ?_
  obtain ⟨haddress, hlen, hpayload, hrecent, hnodup, hout, -⟩ := hlaw
  exact ⟨haddress, hlen, hpayload, hrecent, hnodup, hout, Counters.zero_ranges⟩

/-- Silencing the ports commutes with the RESTARTED record of the reset. -/
theorem State.restart_silencePorts (s : State) (b : Bool) (c : ResetCause) :
    ({ s.silencePorts with rstn := b } : State).restart c
      = { (s.restart c).silencePorts with power := (s.restart c).power, rstn := b } := by
  rw [State.restart_eq, State.restart_eq]
  rfl

/-- A pin reset (R16): the blocks reset, and then the ports silenced with RSTn low. -/
theorem State.pinResetStart_eq (s : State) :
    ∃ u, Acts s u ∧ s.pinResetStart = { u.silencePorts with power := u.power, rstn := false } := by
  have hempty := ((((ReflTransGen.single s.wiped_act).trans (State.emptyInbound_acts _)).trans
    (State.emptyReports_acts _)).trans (State.emptyAgent_acts _))
  have hreset := (((hempty.tail (.unassign _ rfl rfl)).tail (State.clearCounters_act _)).trans (State.restart_acts _ .pin))
  refine ⟨_, hreset, ?_⟩
  rw [← State.restart_silencePorts]
  rfl

theorem State.resetSequence_act (s : State) (h : s.report.unacked = []) :
    Act s { s with report := { s.report with nextSequence := 0 } } := by
  have hact : Act s { s with report := { s.report with unacked := [], nextSequence := 0 } } := by
    refine .list s [] 0 (fun hlaw => ?_) (by simp)
    obtain ⟨-, -, -, hlimit⟩ := s.listLaw_iff.mp hlaw
    exact (State.listLaw_iff _).mpr ⟨by simp, sequencesOk_nil 0, by simp, hlimit⟩
  rwa [← h] at hact

theorem State.loseFrames_unacked (s : State) (frames : List ReportFrame) :
    (s.loseFrames frames).report.unacked = s.report.unacked := by
  rw [State.loseFrames_eq]

theorem State.headLossReset_acts (s : State) : Acts s s.headLossReset := by
  unfold State.headLossReset
  dsimp only
  generalize hlost : ({ s.emptyInbound with report := { s.emptyInbound.report with unacked := [] } } : State).loseFrames
      s.emptyInbound.report.unacked = lost
  have hacts : Acts s lost := by
    rw [← hlost]
    exact (s.emptyInbound_acts.tail (State.dropOlder_act _ _ [] (List.append_nil _).symm)).trans
      (State.loseFrames_acts _ _)
  have hnone : lost.report.unacked = [] := by rw [← hlost, State.loseFrames_unacked]
  exact (((hacts.tail (lost.resetSequence_act hnone)).trans (State.emptyAgent_acts _)).tail
    (.unassign _ rfl hnone)).trans (State.restart_acts _ _)

theorem State.lineLost_acts (s : State) (p : Port) : Acts s (s.lineLost p) := by
  unfold State.lineLost
  split
  · rename_i h
    have hrx : Act s (s.setRx p RxSide.inDown) := s.leaveReception_act p _ (by simp [h]) rfl fun _ => by decide
    cases p
    · exact .head hrx (State.headLossReset_acts _)
    · exact .tail (.single hrx) (State.raiseFieldLine_act _ _)
  · exact .refl

end Sys2Proof.Machine
end

section
/-! SUPPORT. The requests, the enumeration, the frame claim and the transmissions as updates of the device. -/

namespace Sys2Proof.Machine

open Sys2Proof Relation

/-! ## Outbound frames and responses -/

theorem State.sendOutward_act (s : State) (bytes : List Byte) : Act s (s.sendOutward bytes) := by
  unfold State.sendOutward
  split
  · rename_i h
    exact .outbound s _ fun _ => by simpa using h
  · exact s.countOutboundDrop_act

/-- What every operation of Table 16 does: updates of the device, a payload that fits its response, the address kept, no
response added, and no entry of the recent-request list where its answer is recorded. -/
structure Operation.Sound (o : Operation) : Prop where
  acts : ∀ operands s, Acts s (o.perform operands s).state
  payload : ∀ operands s, (o.perform operands s).payload.length ≤ 55
  address : ∀ operands s, (o.perform operands s).state.agent.address = s.agent.address
  room : ∀ operands s, (o.perform operands s).state.agent.responses.length ≤ s.agent.responses.length
  recent : o.recorded = true → ∀ operands s, (o.perform operands s).state.agent.recent = s.agent.recent

/-- An operation that leaves the whole agent as it was is sound where its updates and its payload are. -/
theorem Operation.sound_of_agent (o : Operation) (hacts : ∀ operands s, Acts s (o.perform operands s).state)
    (hpayload : ∀ operands s, (o.perform operands s).payload.length ≤ 55)
    (hagent : ∀ operands s, (o.perform operands s).state.agent = s.agent) : o.Sound :=
  ⟨hacts, hpayload, fun l s => by rw [hagent l s], fun l s => by rw [hagent l s], fun _ l s => by rw [hagent l s]⟩

theorem ConfigRecord.bytes_length (r : ConfigRecord) : r.bytes.length = 24 := rfl
theorem State.identity_length (s : State) : s.identity.length = 24 := rfl
theorem State.runStatePayload_length (s : State) (e : Nat) : (s.runStatePayload e).length = 15 := rfl

/-- A MAP-LIST payload is its two counts and three bytes an item (R26). -/
theorem State.mapListPayload_length (s : State) (start : Nat) :
    (s.mapListPayload start).length = 2 + 3 * min 16 (s.map.length - start) := by
  have hitems : ∀ l : List MapKey, (l.flatMap MapKey.bytes).length = 3 * l.length := fun l => by
    induction l with
    | nil => rfl
    | cons k rest ih =>
      rw [List.flatMap_cons, List.length_append, ih, List.length_cons]
      simp [MapKey.bytes]
      omega
  simp [State.mapListPayload, hitems]
  omega

theorem opIdentify_sound : opIdentify.Sound := by
  refine ⟨fun l s => ?_, fun l s => ?_, fun l s => ?_, fun l s => ?_, fun _ l s => ?_⟩ <;>
    simp only [opIdentify, performIdentify]
  · split_ifs
    · exact .refl
    · exact .single (State.clearCounters_act s)
    · exact .refl
  all_goals split_ifs <;> simp [Reply.refuse, State.identity_length]

theorem opReadEntry_sound : opReadEntry.Sound := by
  refine Operation.sound_of_agent _ (fun l s => ?_) (fun l s => ?_) (fun l s => ?_) <;>
    simp only [opReadEntry, performReadEntry] <;> split_ifs
  all_goals first | exact .refl | simp [Reply.refuse, ConfigRecord.bytes_length]

theorem opReadState_sound : opReadState.Sound := by
  refine Operation.sound_of_agent _ (fun l s => ?_) (fun l s => ?_) (fun l s => ?_) <;>
    simp only [opReadState, performReadState] <;> split_ifs
  all_goals first
    | exact .refl
    | exact .single (.core (.forgetTally s _))
    | simp [Reply.refuse, State.runStatePayload_length]

theorem opMapList_sound : opMapList.Sound := by
  refine Operation.sound_of_agent _ (fun _ _ => .refl) (fun l s => ?_) (fun _ _ => rfl)
  show (s.mapListPayload _).length ≤ 55
  rw [s.mapListPayload_length]
  omega

theorem opReadSettings_sound : opReadSettings.Sound :=
  Operation.sound_of_agent _ (fun _ _ => .refl) (fun _ s => show s.agent.settings.bytes.length ≤ 55 from by
    simp [Settings.bytes]) (fun _ _ => rfl)

/-- A record that decodes to a valid one can be stored (R25, R29). -/
theorem decodeRecord_stored (bytes : List Byte) (r : ConfigRecord) (e : Nat) (h : decodeRecord bytes = some r)
    (hv : r.valid e = true) : r.stored e := by
  have hpos : ∀ (n : Nat) (x : BitVec n), x ≠ 0 → 1 ≤ x.toNat := fun n x hx => by
    rw [Nat.one_le_iff_ne_zero]
    exact fun h0 => hx (BitVec.eq_of_toNat_eq (by simpa using h0))
  unfold decodeRecord at h
  dsimp only at h
  split at h
  · split_ifs at h with hc
    obtain ⟨-, -, -, -, -, henter, hreturn, hperiod⟩ := hc
    obtain rfl := Option.some.inj h
    refine ⟨hv, hpos _ _ hperiod, ?_, hpos _ _ henter, ?_, hpos _ _ hreturn, ?_⟩ <;> dsimp only <;> omega
  · simp at h

theorem opWriteEntry_sound : opWriteEntry.Sound := by
  refine Operation.sound_of_agent _ (fun l s => ?_) (fun l s => ?_) (fun l s => ?_) <;>
    simp only [opWriteEntry, performWriteEntry]
  · split_ifs with he hp
    · exact .refl
    · exact .refl
    · split
      · exact .refl
      · rename_i r hr
        split_ifs with hv
        · exact .single (.core (.stage s _ r (by simpa using hp) (decodeRecord_stored _ r _ hr hv)))
        · exact .refl
  all_goals
    split_ifs
    · simp [Reply.refuse]
    · simp [Reply.refuse]
    · split
      · simp [Reply.refuse]
      · split_ifs <;> simp [Reply.refuse]

@[simp] theorem State.mapChange_agent (s : State) (e : Nat) : (s.mapChange e).agent = s.agent := by
  unfold State.mapChange
  dsimp only
  split <;> simp

theorem opMapAdd_sound : opMapAdd.Sound := by
  refine Operation.sound_of_agent _ (fun l s => ?_) (fun l s => ?_) (fun l s => ?_) <;>
    simp only [opMapAdd, performMapAdd]
  · split_ifs with hrange hkey hentry
    · exact .refl
    · exact .refl
    · exact .refl
    · obtain ⟨t, hworks, heq⟩ := State.mapChange_works
        { s with map := insertKey ⟨(byteAt l 0).toNat, (byteAt l 1).toNat, (byteAt l 2).toNat⟩ s.map } (byteAt l 2).toNat
      rw [heq]
      refine .single (.core (.claim s t (.head (.addKey s _ ?_ (by simpa using hkey) (by simpa using hentry)) hworks)))
      simp only [not_or, not_le] at hrange
      exact hrange
  all_goals split_ifs <;> simp [Reply.refuse]

theorem opMapRemove_sound : opMapRemove.Sound := by
  refine Operation.sound_of_agent _ (fun l s => ?_) (fun l s => ?_) (fun l s => ?_) <;>
    simp only [opMapRemove, performMapRemove]
  · split
    · exact .refl
    · rename_i e he
      exact .single (.core (.unmap s _ _ e he))
  all_goals split <;> simp [Reply.refuse]

@[simp] theorem State.acceptCommit_agent (s : State) (d : Nat) : (s.acceptCommit d).agent = s.agent := by
  rw [State.acceptCommit_eq]
  split_ifs <;> simp [State.accepting, State.acceptUnits]

theorem opCommit_sound : opCommit.Sound := by
  refine Operation.sound_of_agent _ (fun l s => ?_) (fun l s => ?_) (fun l s => ?_) <;>
    simp only [opCommit, performCommit]
  · split_ifs with hp
    · exact .refl
    · obtain ⟨t, hworks, heq⟩ := s.acceptCommit_works (halfOf (byteAt l 0) (byteAt l 1)).toNat (by simpa using hp)
      dsimp only
      rw [heq]
      exact .single (.core (.claim s t hworks))
  all_goals split_ifs <;> simp [Reply.refuse]

theorem opReportAck_sound : opReportAck.Sound := by
  refine Operation.sound_of_agent _ (fun l s => ?_) (fun l s => ?_) (fun l s => ?_) <;>
    simp only [opReportAck, performReportAck]
  · split_ifs
    · exact .single (s.dropOlder_act _ _ (splitThrough_eq_append _ _))
    · exact .refl
  all_goals split_ifs <;> simp [Reply.refuse]

/-! ## Groups (R137, R139) -/

/-- A change of the groups that keeps each one's law and its set keeps the law of all. -/
theorem State.tripLaw_of_groups (s : State) (l : List TripGroup) (hlen : l.length = s.groups.length)
    (hg : ∀ g x, s.groups[g]? = some x → ∃ y : TripGroup, l[g]? = some y ∧ y.set = x.set
      ∧ (x.wf (s.agent.settings.latch g) → y.wf (s.agent.settings.latch g))) :
    s.tripLaw → { s with groups := l }.tripLaw := by
  rintro ⟨hfour, hwf, hset⟩
  have hat : ∀ g < 4, ∃ y : TripGroup, l[g]? = some y ∧ y.set = (s.group g).set
      ∧ ((s.group g).wf (s.agent.settings.latch g) → y.wf (s.agent.settings.latch g)) := fun g h4 => by
    refine hg g (s.group g) ?_
    simp [State.group, List.getD_eq_getElem?_getD, List.getElem?_eq_getElem (show g < s.groups.length by omega)]
  have hgroup : ∀ g < 4, ∀ y, l[g]? = some y → State.group { s with groups := l } g = y := fun g _ y hy => by
    simp [State.group, List.getD_eq_getElem?_getD, hy]
  refine ⟨hlen.trans hfour, fun g h4 => ?_, fun hdue g h4 => ?_⟩
  · obtain ⟨y, hy, -, hywf⟩ := hat g h4
    rw [hgroup g h4 y hy]
    exact hywf (hwf g h4)
  · obtain ⟨y, hy, hyset, -⟩ := hat g h4
    rw [hgroup g h4 y hy, hyset]
    exact hset hdue g h4

/-- An acknowledgement keeps the set of a group and its law (Table 58). -/
theorem TripGroup.acknowledged_keeps (x : TripGroup) (latch : Bool) :
    x.acknowledged.set = x.set ∧ (x.wf latch → x.acknowledged.wf latch) := by
  unfold TripGroup.acknowledged
  split
  · rename_i h
    refine ⟨rfl, fun ⟨hset, _⟩ => ⟨?_, by simp⟩⟩
    simpa [h] using hset
  · exact ⟨rfl, id⟩

theorem opTripAck_sound : opTripAck.Sound := by
  refine Operation.sound_of_agent _ (fun l s => ?_) (fun l s => ?_) (fun l s => ?_) <;>
    simp only [opTripAck, performTripAck]
  · split
    · refine .single (.core (.groups s _ (s.tripLaw_of_groups _ (by simp) fun g x hx => ?_)))
      have hat : (s.groups.modify (byteAt l 0).toNat TripGroup.acknowledged)[g]?
          = some (if (byteAt l 0).toNat = g then x.acknowledged else x) := by
        simp [List.getElem?_modify, hx]
      refine ⟨_, hat, ?_⟩
      split
      · exact x.acknowledged_keeps _
      · exact ⟨rfl, id⟩
    · split
      · refine .single (.core (.groups s _ (s.tripLaw_of_groups _ (by simp) fun g x hx => ?_)))
        exact ⟨x.acknowledged, by simp [hx], x.acknowledged_keeps _⟩
      · exact .refl
  all_goals split_ifs <;> simp [Reply.refuse]

theorem decodeSettings_limit (bytes : List Byte) (x : Settings) (h : decodeSettings bytes = some x) :
    x.retryLimit ≤ 15 := by
  unfold decodeSettings at h
  split at h
  · split at h
    · split_ifs at h with hc
      obtain rfl := Option.some.inj h
      exact hc.2
    · simp at h
  · simp at h

theorem opWriteSettings_sound : opWriteSettings.Sound := by
  refine ⟨fun l s => ?_, fun l s => ?_, fun l s => ?_, fun l s => ?_, fun _ l s => ?_⟩ <;>
    simp only [opWriteSettings, performWriteSettings]
  · split
    · exact .refl
    · rename_i x hx
      split_ifs
      · exact .refl
      · exact .single (.settings s x (decodeSettings_limit l x hx))
  all_goals
    split
    · simp [Reply.refuse]
    · split_ifs <;> simp [Reply.refuse, State.storeSettings]

theorem State.requestReset_agent (s : State) :
    s.requestReset.agent = { s.agent with responses := [], recent := [], outbound := [], lastCause := .request } := by
  have hforce : s.forceForReset.agent = s.agent := by
    unfold State.forceForReset
    split <;> rfl
  unfold State.requestReset
  rw [State.restart_eq]
  simp [State.emptyAgent, hforce]

theorem opReset_sound : opReset.Sound := by
  refine ⟨fun _ s => s.requestReset_acts, fun _ _ => by simp [opReset, performReset], fun _ s => ?_, fun _ s => ?_,
    fun h => by simp [opReset] at h⟩ <;>
  simp [opReset, performReset, s.requestReset_agent]

theorem operations_sound : ∀ o ∈ operations, o.Sound := by
  unfold operations
  simp only [List.mem_cons, List.not_mem_nil, or_false, forall_eq_or_imp, forall_eq]
  exact ⟨opIdentify_sound, opReadEntry_sound, opWriteEntry_sound, opReadState_sound, opMapAdd_sound, opMapRemove_sound,
    opMapList_sound, opCommit_sound, opReportAck_sound, opTripAck_sound, opReadSettings_sound, opWriteSettings_sound,
    opReset_sound⟩

theorem operationOf_sound (op : Byte) : ∀ o ∈ operationOf op, o.Sound :=
  fun o ho => operations_sound o (List.mem_of_find?_eq_some ho)

/-! ## The intake of a request (R155, R156, R159) -/

theorem State.answerRequest_acts (s : State) (o : Operation) (tag : Byte) (operands : List Byte) (ho : o.Sound)
    (hroom : s.agent.responses.length < 2) (haddress : s.agent.address ≠ none) :
    Acts s (s.answerRequest o tag operands) := by
  have hanswer : ∀ status repeated, Acts s (s.respond (answer tag o.code status repeated [])) := fun status repeated =>
    .single (.respond s _ hroom (by simp [answer]) haddress)
  unfold State.answerRequest
  split
  · exact hanswer _ _
  split
  · exact hanswer _ _
  rename_i hnew
  dsimp only
  have hdone : Acts s ((o.perform operands s).state.respond
      (answer tag o.code (o.perform operands s).status false (o.perform operands s).payload)) :=
    (ho.acts operands s).tail (.respond _ _ ((ho.room operands s).trans_lt hroom) (ho.payload operands s)
      (by rwa [ho.address operands s]))
  split_ifs with hrecord
  · simp only [Bool.and_eq_true] at hrecord
    refine hdone.tail (.record _ tag _ ?_)
    have hrecent := ho.recent hrecord.2 operands s
    rw [if_pos hrecord.1] at hnew
    unfold State.recentStatus at hnew ⊢
    rwa [show ((o.perform operands s).state.respond _).agent.recent = s.agent.recent from hrecent]
  · exact hdone

theorem State.takeRequest_acts (s : State) (o : Option Operation) (target tag op : Byte) (operands : List Byte)
    (ho : ∀ x ∈ o, x.Sound) : Acts s (s.takeRequest o target tag op operands) := by
  unfold State.takeRequest
  split_ifs with haddress hbroadcast
  · have hsome : s.agent.address ≠ none := by simp [haddress]
    unfold State.addressedRequest
    split_ifs with hroom
    · exact .single s.countDroppedRequest_act
    · have hroom : s.agent.responses.length < 2 := Nat.lt_of_not_le hroom
      split
      · exact .single (.respond s _ hroom (by simp [answer]) hsome)
      · exact s.answerRequest_acts _ tag operands (ho _ rfl) hroom hsome
  · refine .tail ?_ (State.sendOutward_act _ _)
    unfold State.broadcastRequest
    split
    · exact .refl
    · split_ifs
      · exact (ho _ rfl).acts operands s
      · exact .refl
  · exact .single (s.sendOutward_act _)

theorem State.hFrameEndWith_acts (s : State) (f : State → State) (hf : ∀ t, Acts t (f t)) :
    Acts s (s.hFrameEndWith f) := by
  unfold State.hFrameEndWith
  split
  · rename_i hup
    have hclose : Acts s (s.closeReception .h) := .single (s.closeReception_act .h hup)
    dsimp only
    split
    · exact hclose.trans (hf _)
    · exact hclose
  · exact .refl

theorem State.requestEnd_acts (s : State) (o : Option Operation) (target tag op : Byte) (operands : List Byte)
    (ho : ∀ x ∈ o, x.Sound) : Acts s (s.requestEnd o target tag op operands) := by
  refine s.hFrameEndWith_acts _ fun t => ?_
  split_ifs
  · exact t.takeRequest_acts o target tag op operands ho
  · exact .single (t.countDiscard_act .h)

theorem State.enumerate_acts (s : State) (mode next flags tag : Byte) (h : enumerationFieldsOk mode next flags = true) :
    Acts s (s.enumerate mode next flags tag) := by
  have htake : Acts s (if s.takesAddress mode next then s.takeAddress next tag else s) := by
    split_ifs with ht
    · simp only [State.takesAddress, Bool.and_eq_true, bne_iff_ne, decide_eq_true_eq] at ht
      simp only [enumerationFieldsOk, Bool.and_eq_true, decide_eq_true_eq] at h
      have hnext : next.toNat ≠ 31 := fun h31 => ht.1.2 (BitVec.eq_of_toNat_eq h31)
      exact (ReflTransGen.single (.address s next ⟨h.1.2.1, by omega⟩)).tail (.respond _ _ ht.2 (by simp) (by simp))
    · exact .refl
  unfold State.enumerate
  dsimp only
  split_ifs at htake ⊢
  all_goals first | exact htake | exact htake.tail (State.sendOutward_act _ _)

theorem State.enumerationEnd_acts (s : State) (mode next flags tag : Byte) :
    Acts s (s.enumerationEnd mode next flags tag) := by
  refine s.hFrameEndWith_acts _ fun t => ?_
  split_ifs with h
  · exact t.enumerate_acts mode next flags tag h
  · exact .single (t.countDiscard_act .h)

theorem State.hFrameEnd_acts (s : State) (bytes : List Byte) : Acts s (s.hFrameEnd bytes) := by
  have hdiscard : Acts s (s.hFrameEndWith fun t => t.countDiscard .h) :=
    s.hFrameEndWith_acts _ fun t => .single (t.countDiscard_act .h)
  unfold State.hFrameEnd
  split
  · exact s.requestEnd_acts _ _ _ _ _ (operationOf_sound _)
  · exact s.enumerationEnd_acts _ _ _ _
  all_goals exact hdiscard

/-! ## The frame claim (R45) -/

theorem replacePending_length (r : Option InboundFrame) (l : List InboundFrame) : (replacePending r l).length ≤ l.length := by
  induction l with
  | nil => simp [replacePending]
  | cons f rest ih =>
    unfold replacePending
    split
    · cases r <;> simp
    · simpa using ih

theorem mem_replacePending (r : Option InboundFrame) (l : List InboundFrame) (x : InboundFrame)
    (h : x ∈ replacePending r l) : x ∈ l ∨ r = some x := by
  induction l with
  | nil => simp [replacePending] at h
  | cons f rest ih =>
    unfold replacePending at h
    split at h
    · rcases List.mem_append.mp h with h | h
      · exact .inr (by simpa using h)
      · exact .inl (List.mem_cons_of_mem f h)
    · rcases List.mem_cons.mp h with rfl | h
      · exact .inl (List.mem_cons_self)
      · exact (ih h).imp_left (List.mem_cons_of_mem f)

/-- The queue's law of transmission stays where a frame in the queue is replaced by one that is not in transmission. -/
theorem replacePending_tail (r : Option InboundFrame) (l : List InboundFrame)
    (hr : ∀ x ∈ r, x.state ≠ .inTransmission) (h : ∀ f ∈ l.tail, f.state ≠ .inTransmission) :
    ∀ f ∈ (replacePending r l).tail, f.state ≠ .inTransmission := by
  intro x hx
  cases l with
  | nil => simp [replacePending] at hx
  | cons f rest =>
    unfold replacePending at hx
    split at hx
    · cases r with
      | none => exact h x (List.mem_of_mem_tail hx)
      | some y => exact h x hx
    · rcases mem_replacePending r rest x hx with hx | hx
      · exact h x hx
      · exact hr x hx

theorem FrameClaim.frame_state (c : FrameClaim) (bytes : List Byte) : ∀ x ∈ c.frame bytes, x.state ≠ .inTransmission := by
  intro x hx
  unfold FrameClaim.frame at hx
  dsimp only at hx
  split_ifs at hx <;> simp at hx <;> subst hx <;> simp

/-- The hand-over does not read the inbound queue. -/
theorem State.handOver_of_inbound (s : State) (l : List InboundFrame) :
    { s with inbound := l }.handOver = { s.handOver with inbound := l } := rfl

theorem State.qualify_acts (s : State) : Acts s s.qualify := by
  unfold State.qualify
  split
  · exact .refl
  · rename_i f _
    have hclaim : Act s (s.claimFrame f.bytes).state.handOver := .core (.claim s _ (s.claimFrame_works f.bytes))
    dsimp only
    generalize s.claimFrame f.bytes = c at hclaim
    rw [State.handOver_of_inbound]
    exact (ReflTransGen.single hclaim).tail (.inbound _ _ (replacePending_length _ _)
      (replacePending_tail _ _ (FrameClaim.frame_state _ _)))

/-! ## Transmissions (R1, R13, R14, R145) -/

/-- An idle transmitter that takes a frame keeps the range of its long-gap count (R1). -/
theorem TxSide.startFrame_longGap (t : TxSide) (bytes : List Byte) (source : Supplier) (hidle : t.isIdle = true)
    (h : t.longGap ≤ 16) : (t.startFrame bytes source).longGap ≤ 16 := by
  simp only [TxSide.isIdle, TxSide.gapRemaining, Bool.and_eq_true, beq_iff_eq] at hidle
  unfold TxSide.startFrame
  dsimp only
  split_ifs with hrun
  · omega
  · have hne : t.longGap ≠ 16 := fun h16 => by
      rw [if_pos h16] at hidle
      have : 32 ≤ t.idleRun := by
        have := (Nat.max_eq_zero_iff.mp hidle.2).2
        omega
      exact hrun this
    omega

theorem State.sendHead_act (s : State) (bytes : List Byte) (source : Supplier) (hrun : s.running = true)
    (hidle : s.hPort.tx.isIdle = true) : Act s (s.sendHead bytes source) :=
  .tx s .h _ (s.hPort.tx.startFrame_longGap bytes source hidle) (.inl hrun)

/-- The conditions of a grant, apart from the line (R145). -/
theorem State.grantPossible_iff (s : State) :
    s.grantPossible = true ↔ s.running = true ∧ s.hPort.tx.isIdle = true ∧ s.hPort.rx.state = .up := by
  simp [State.grantPossible, and_assoc]

theorem State.sendTransit_acts (s : State) (hrun : s.running = true) (hidle : s.hPort.tx.isIdle = true) :
    Acts s s.sendTransit := by
  unfold State.sendTransit
  split
  · exact .refl
  · rename_i f rest heq
    exact (ReflTransGen.single (.inbound s ({ f with state := .inTransmission } :: rest) (by simp [heq])
      (by simp [heq]))).tail (State.sendHead_act _ _ _ hrun hidle)

theorem State.sendResponse_acts (s : State) (hrun : s.running = true) (hidle : s.hPort.tx.isIdle = true) :
    Acts s s.sendResponse := by
  unfold State.sendResponse
  split
  · exact .refl
  · rename_i r rest heq
    exact (ReflTransGen.single (.responses s ({ r with granted := true } :: rest) (by simp [heq]))).tail
      (State.sendHead_act _ _ _ hrun hidle)

theorem State.retransmit_acts (s : State) (f : ReportFrame) (hf : f ∈ s.report.unacked) (hdue : f.due = true)
    (hrun : s.running = true) (hidle : s.hPort.tx.isIdle = true) : Acts s (s.retransmit f) := by
  refine (ReflTransGen.single (s.mapFrames_act _ (fun x => by split <;> rfl) fun hlaw x hx hlisted => ?_)).tail
    (State.sendHead_act _ _ _ hrun hidle)
  obtain ⟨h1, h4, hs1, hs16, hs15⟩ := hlisted
  split_ifs with heq
  · have hxf : x = f := s.listLaw_unique hlaw x f hx hf (by simpa using heq)
    have hsends : x.sendCount ≤ 15 := hs15 (by rw [hxf, hdue])
    exact ⟨h1, h4, Nat.le_add_left 1 _, by show x.sendCount + 1 ≤ 16; omega, fun h => by simp at h⟩
  · exact ⟨h1, h4, hs1, hs16, hs15⟩

theorem takeRecords_length (p : ReportRecord → Bool) (n : Nat) (q : List ReportRecord) (h : q.any p = true) (hn : 1 ≤ n) :
    1 ≤ (takeRecords p n q).1.length ∧ (takeRecords p n q).1.length ≤ n := by
  obtain ⟨htaken, -⟩ := takeRecords_spec p n q
  have hpos : 0 < (q.filter p).length := by
    obtain ⟨r, hr, hp⟩ := List.any_eq_true.mp h
    exact List.length_pos_of_mem (List.mem_filter.mpr ⟨hr, hp⟩)
  rw [htaken, List.length_take]
  omega

theorem State.formReport_acts (s : State) (p : ReportRecord → Bool) (hany : s.report.queue.any p = true)
    (hroom : s.report.unacked.length < 4) (haddress : s.agent.address ≠ none) (hrun : s.running = true)
    (hidle : s.hPort.tx.isIdle = true) : Acts s (s.formReport p) := by
  obtain ⟨-, -, -, hsub⟩ := takeRecords_spec p Config.recordsPerFrame s.report.queue
  obtain ⟨h1, h4⟩ := takeRecords_length p Config.recordsPerFrame s.report.queue hany (by decide)
  refine ((ReflTransGen.single (.core (.queue s _ hsub))).tail (.list _ (s.report.unacked ++ [_]) (s.report.nextSequence + 1)
    (fun hlaw => ?_) fun hnone => absurd hnone haddress)).tail (State.sendHead_act _ _ _ hrun hidle)
  obtain ⟨-, hseq, hframes, hlimit⟩ := (State.listLaw_iff _).mp hlaw
  refine (State.listLaw_iff _).mpr ⟨?_, sequencesOk_append _ _ _ hseq rfl, fun f hf => ?_, hlimit⟩
  · simpa using hroom
  · rcases List.mem_append.mp hf with hf | hf
    · exact hframes f hf
    · obtain rfl := List.mem_singleton.mp hf
      exact ⟨h1, h4, le_rfl, by simp, by simp⟩

theorem State.sendReport_acts (s : State) (ofClass : ReportFrame → Bool) (p : ReportRecord → Bool)
    (hnew : (∀ f ∈ s.report.unacked, f.due = true → ofClass f = false) →
      s.report.queue.any p = true ∧ s.report.unacked.length < 4 ∧ s.agent.address ≠ none)
    (hrun : s.running = true) (hidle : s.hPort.tx.isIdle = true) : Acts s (s.sendReport ofClass p) := by
  unfold State.sendReport
  split
  · rename_i f hf
    have hdue : f.due = true ∧ ofClass f = true := by simpa using List.find?_some hf
    exact s.retransmit_acts f (List.mem_of_find?_eq_some hf) hdue.1 hrun hidle
  · rename_i hnone
    obtain ⟨hany, hroom, haddress⟩ := hnew fun f hf hdue => by
      simpa [hdue] using List.find?_eq_none.mp hnone f hf
    exact s.formReport_acts p hany hroom haddress hrun hidle

/-- A claim that the arbiter chooses is present (R146). -/
theorem State.choice_present (s : State) (k : ClaimKind) (h : s.choice = some k) :
    match k with
    | .urgent => s.urgentClaim = true
    | .response => s.responseClaim = true
    | .transit => s.transitClaim = true
    | .routine => s.routineClaim = true := by
  unfold State.choice at h
  split_ifs at h <;> obtain rfl := Option.some.inj h <;> simp_all

/-- A grant to response or transit comes before the promotion counter has reached its threshold (R147). -/
theorem State.promotion_ne_of_choice (s : State) (k : ClaimKind) (h : s.choice = some k) (hk : k = .response ∨ k = .transit)
    (hr : s.routineClaim = true) : s.promotion ≠ 8 := by
  intro h8
  cases hu : s.urgentClaim with
  | true =>
    obtain rfl := Option.some.inj ((s.choice_of_urgentClaim hu).symm.trans h)
    simp at hk
  | false =>
    obtain rfl := Option.some.inj ((s.choice_of_promoted hu h8 hr).symm.trans h)
    simp at hk

theorem State.promoted_le (s : State) (k : ClaimKind) (h : s.choice = some k) (hp : s.promotion ≤ 8) :
    s.promoted k ≤ 8 := by
  have hlt := s.promotion_ne_of_choice k h
  unfold State.promoted
  cases k <;> dsimp only
  case urgent => exact hp
  case routine => omega
  all_goals
    split_ifs with hr
    · have := hlt (by simp) hr; omega
    · omega

theorem State.grant_acts (s : State) : Acts s s.grant := by
  unfold State.grant
  split_ifs with hg
  swap
  · exact .refl
  obtain ⟨hrun, hidle, -⟩ := s.grantPossible_iff.mp hg
  split
  swap
  · exact .refl
  rename_i k hk
  have hpresent := s.choice_present k hk
  refine .head (.promotion s (s.promoted k) (s.promoted_le k hk)) ?_
  cases k with
  | urgent =>
    refine State.sendReport_acts _ _ _ (fun hnone => ?_) hrun hidle
    obtain ⟨haddress, ⟨f, hf, hdue, r, hr, hru⟩ | ⟨hroom, r, hr, hru⟩⟩ := s.urgentClaim_iff.mp hpresent
    · exact absurd (hnone f hf hdue) (by simpa using (f.urgent_iff.mpr ⟨r, hr, hru⟩))
    · exact ⟨List.any_eq_true.mpr ⟨r, hr, hru⟩, hroom, haddress⟩
  | response => exact State.sendResponse_acts _ hrun hidle
  | transit => exact State.sendTransit_acts _ hrun hidle
  | routine =>
    refine State.sendReport_acts _ _ _ (fun hnone => ?_) hrun hidle
    obtain ⟨haddress, ⟨f, hf, hdue, hru⟩ | ⟨hroom, hne⟩⟩ := s.routineClaim_iff.mp hpresent
    · exact absurd (hnone f hf hdue) (by simpa using (f.not_urgent_iff.mpr hru))
    · obtain ⟨r, hr⟩ := List.exists_mem_of_ne_nil _ hne
      exact ⟨List.any_eq_true.mpr ⟨r, hr, rfl⟩, hroom, haddress⟩

/-- The END of a frame keeps the long-gap count (R1). -/
theorem State.endFrame_act (s : State) (p : Port) (h : (s.port p).tx.frame ≠ none) :
    Act s (s.setTx p (s.port p).tx.endFrame) :=
  .tx s p _ id (.inr h)

theorem State.releaseHead_acts (s : State) (source : Supplier) : Acts s (s.releaseHead source) := by
  unfold State.releaseHead
  split
  · split
    · rename_i f rest heq
      split_ifs
      · exact .single (.inbound s rest (by simp [heq]) fun h x hx => h x (by
          rw [heq]; exact List.mem_of_mem_tail hx))
      · exact .refl
    · exact .refl
  · split
    · rename_i r rest heq
      split_ifs
      · exact .single (.responses s rest (by simp [heq]))
      · exact .refl
    · exact .refl
  · exact .refl
  · exact .refl

theorem State.releaseHead_hPort (s : State) (source : Supplier) : (s.releaseHead source).hPort = s.hPort := by
  unfold State.releaseHead
  split
  · split
    · split_ifs <;> rfl
    · rfl
  · split
    · split_ifs <;> rfl
    · rfl
  · rfl
  · rfl

theorem State.headComplete_acts (s : State) : Acts s s.headComplete := by
  unfold State.headComplete
  split
  · exact .refl
  · rename_i x hx
    have hend := (s.releaseHead x.source).endFrame_act .h (by
      show (s.releaseHead x.source).hPort.tx.frame ≠ none
      simp [s.releaseHead_hPort, hx])
    rw [show ((s.releaseHead x.source).port .h) = s.hPort from s.releaseHead_hPort _] at hend
    exact (s.releaseHead_acts x.source).tail hend

theorem State.fieldStart_acts (s : State) : Acts s s.fieldStart := by
  unfold State.fieldStart
  split_ifs with h
  · simp only [Bool.and_eq_true] at h
    split
    · exact .refl
    · rename_i f rest heq
      exact (ReflTransGen.single (.outbound s ({ f with taken := true } :: rest) (by simp [heq]))).tail
        (.tx _ .f _ (s.fPort.tx.startFrame_longGap _ _ h.2) (.inl h.1))
  · exact .refl

theorem State.fieldComplete_acts (s : State) : Acts s s.fieldComplete := by
  unfold State.fieldComplete
  split
  · exact .refl
  · rename_i x hx
    have hne : s.fPort.tx.frame ≠ none := by simp [hx]
    dsimp only
    split
    · rename_i f rest heq
      split_ifs
      · refine (ReflTransGen.single (.outbound s rest (by simp [heq]; omega))).tail (State.endFrame_act _ .f hne)
      · exact .single (s.endFrame_act .f hne)
    · exact .single (s.endFrame_act .f hne)

theorem State.transmissionComplete_acts (s : State) (p : Port) : Acts s (s.transmissionComplete p) := by
  cases p
  · exact s.headComplete_acts
  · exact s.fieldComplete_acts

theorem State.transmit_acts (s : State) (p : Port) (hrun : s.running = true) : Acts s (s.transmit p) := by
  unfold State.transmit
  dsimp only
  split
  · split_ifs
    · exact .single (.tx s p _ id (.inl hrun))
    · exact .single (.tx s p _ id (.inl hrun))
    · exact s.transmissionComplete_acts p
  · refine .single (.tx s p _ (fun h => ?_) (.inl hrun))
    dsimp only
    split_ifs <;> omega

end Sys2Proof.Machine
end

section
/-! SUPPORT. Every step as updates of the device: the command taken, or the events of a byte time one after another. -/

namespace Sys2Proof.Machine

open Sys2Proof Relation

/-- What each update keeps, a chain of them keeps. -/
theorem chain_keeps {r : State → State → Prop} (P : State → Prop) (h : ∀ s t, r s t → P s → P t) {s t : State}
    (hchain : ReflTransGen r s t) (hs : P s) : P t := by
  induction hchain with
  | refl => exact hs
  | tail _ hlast ih => exact h _ _ hlast ih

/-! ## What no update changes -/

/-- The power supply, the pin RSTn and the queue of commands are as they were, and no entry has become due to be STALE. -/
def State.Undisturbed (s t : State) : Prop :=
  t.power = s.power ∧ t.rstn = s.rstn ∧ t.pending = s.pending ∧ (s.staleDue = [] → t.staleDue = [])

theorem State.Undisturbed.of_eq {s t : State} (h1 : t.power = s.power) (h2 : t.rstn = s.rstn) (h3 : t.pending = s.pending)
    (h4 : t.staleDue = s.staleDue) : s.Undisturbed t :=
  ⟨h1, h2, h3, fun h => h4.trans h⟩

theorem Undisturbed.chain {r : State → State → Prop} (h : ∀ s t, r s t → s.Undisturbed t) {s t : State}
    (hchain : ReflTransGen r s t) : s.Undisturbed t :=
  chain_keeps (fun t => s.Undisturbed t)
    (fun u v huv ⟨h1, h2, h3, h4⟩ =>
      have ⟨k1, k2, k3, k4⟩ := h u v huv
      ⟨k1.trans h1, k2.trans h2, k3.trans h3, fun hs => k4 (h4 hs)⟩)
    hchain (State.Undisturbed.of_eq rfl rfl rfl rfl)

theorem Work.undisturbed {s t : State} (h : Work s t) : s.Undisturbed t := by
  cases h with
  | due l hnil => exact ⟨rfl, rfl, rfl, hnil⟩
  | raise ev => exact .of_eq (by simp) (by simp) (by simp) (by simp)
  | _ => exact .of_eq rfl rfl rfl rfl

theorem Works.undisturbed {s t : State} (h : Works s t) : s.Undisturbed t := Undisturbed.chain (fun _ _ => Work.undisturbed) h

theorem Core.undisturbed {s t : State} (h : Core s t) : s.Undisturbed t := by
  cases h with
  | claim t hworks => exact hworks.undisturbed
  | wipe t hworks => exact hworks.undisturbed
  | stale t l hdue hleft hworks =>
    obtain ⟨h1, h2, h3, -⟩ := hworks.undisturbed
    exact ⟨h1, h2, h3, fun h => absurd h hdue⟩
  | unmap node channel e =>
    obtain ⟨t, hworks, heq⟩ := State.mapChange_works
      { s with map := s.map.filter fun k => !(k.node == node && k.channel == channel) } e
    rw [heq]
    exact hworks.undisturbed
  | deadline | raise ev => exact .of_eq (by simp) (by simp) (by simp) (by simp)
  | _ => exact .of_eq rfl rfl rfl rfl

theorem Act.undisturbed {s t : State} (h : Act s t) : s.Undisturbed t := by
  cases h with
  | core hcore => exact hcore.undisturbed
  | rx p r | tx p x => exact .of_eq (by simp) (by simp) (by simp) (by simp)
  | _ => exact .of_eq rfl rfl rfl rfl

theorem Acts.undisturbed {s t : State} (h : Acts s t) : s.Undisturbed t := Undisturbed.chain (fun _ _ => Act.undisturbed) h

theorem State.running_iff (s : State) : s.running = true ↔ s.power = .running ∧ s.rstn = true := by
  simp [State.running]

/-- A running device runs on through its updates. -/
theorem Acts.running {s t : State} (h : Acts s t) (hrun : s.running = true) : t.running = true := by
  obtain ⟨hpower, hrstn, -⟩ := h.undisturbed
  rw [State.running_iff] at hrun ⊢
  rwa [hpower, hrstn]

theorem Acts.staleDue {s t : State} (h : Acts s t) (hdue : s.staleDue = []) : t.staleDue = [] := by
  obtain ⟨-, -, -, hnil⟩ := h.undisturbed
  exact hnil hdue

theorem State.finishStale_staleDue (s : State) : s.finishStale.staleDue = [] := by
  unfold State.finishStale
  split
  · rename_i h
    simpa using h
  · rfl

/-- A finished tick leaves no entry due to become STALE. -/
theorem State.finishTick_staleDue (s : State) : s.finishTick.staleDue = [] :=
  Acts.staleDue ((State.forceIfDue_acts _).trans (Acts.foldl _ State.expire_acts _ _)) s.finishStale_staleDue

/-! ## What a line brings in one byte time -/

/-- The timers and the idle count of a receive side that is not DOWN. -/
theorem State.timers_act (s : State) (p : Port) (n silence down : Nat) (h : (s.port p).rx.state ≠ .down)
    (hn : (s.port p).rx.idleCount ≤ 32 → ((s.port p).rx.state = .acquiring → (s.port p).rx.idleCount < 32) →
      n ≤ 32 ∧ ((s.port p).rx.state = .acquiring → n < 32)) :
    Act s (s.setRx p { (s.port p).rx with idleCount := n, silence := silence, lineDown := down }) := by
  refine .rx s p _ (fun hwf => ?_) (fun _ hdown => absurd (by rw [hdown]; rfl) h) fun hp hopen => .inl ?_
  · obtain ⟨hframe, hrefused, -, hidle, hacq⟩ := (RxSide.wf_iff _).mp hwf
    obtain ⟨hn1, hn2⟩ := hn hidle hacq
    exact (RxSide.wf_iff _).mpr ⟨hframe, hrefused, fun hd => absurd hd h, hn1, hn2⟩
  · subst hp
    exact hopen

theorem State.setRx_acquired (s : State) (p : Port) (r : RxSide) (h : (s.port p).rx.state = .acquiring)
    (hr : r.state = .acquiring) : (s.setRx p r).acquired p = s.acquired p := by
  unfold State.acquired
  rw [State.port_setRx, if_pos h, if_pos hr, State.setRx_setRx]

theorem State.noSymbol_acts (s : State) (p : Port) : Acts s (s.noSymbol p) := by
  unfold State.noSymbol
  dsimp only
  split
  · exact .refl
  · rename_i h
    have hact := s.timers_act p 0 ((s.port p).rx.silence + Config.clocksPerByte) (s.port p).rx.lineDown (by simp [h])
      (by simp)
    split
    · exact .head hact (State.acquisitionLost_acts _ p)
    · exact .single hact
  · rename_i h
    have hact := s.setSilence_act p ((s.port p).rx.silence + Config.clocksPerByte) h
    split
    · exact .head hact (State.interrupted_acts _ p)
    · exact .single hact
  · rename_i h
    have hact := s.timers_act p (s.port p).rx.idleCount (s.port p).rx.silence
      ((s.port p).rx.lineDown + Config.clocksPerByte) (by simp [h]) (by simp [h])
    split
    · exact .head hact (State.lineLost_acts _ p)
    · exact .single hact

theorem State.acquiringSymbol_acts (s : State) (p : Port) (y : Symbol) (h : (s.port p).rx.state = .acquiring) :
    Acts s (s.acquiringSymbol p y) := by
  unfold State.acquiringSymbol
  dsimp only
  generalize hcount : (if y = .idle then (s.port p).rx.idleCount + 1 else 0) = count
  split
  · rw [s.setRx_acquired p _ h (by exact h)]
    exact s.acquired_acts p
  · rename_i hne
    refine .single (s.timers_act p count 0 (s.port p).rx.lineDown (by simp [h]) fun _ hacq => ?_)
    have hlt := hacq h
    have : count < 32 := by
      have hne : count ≠ 32 := hne
      split at hcount <;> omega
    omega

theorem State.upSymbol_acts (s : State) (p : Port) (y : Symbol) (h : (s.port p).rx.state = .up) :
    Acts s (s.upSymbol p y) := by
  have hheard := s.setSilence_act p 0 h
  have hreceiving : ∀ bytes, (s.port p).rx.reception = .inFrame bytes → (s.port p).rx.receiving = true := fun bytes hb =>
    (RxSide.receiving_iff _).mpr ⟨bytes, hb⟩
  unfold State.upSymbol
  dsimp only
  split
  · exact s.openFrame_acts p
  · split
    · exact s.abandonFrame_acts p _
    · exact .single hheard
    · exact .single hheard
  · split
    · rename_i bytes hb
      split
      · rename_i hlen
        exact .single (s.inFrame_act p _ h (by simpa using hlen) fun hp => .inl (by
          subst hp; exact hreceiving bytes hb))
      · exact s.abandonFrame_acts p _
    · exact .single hheard
    · exact .single hheard
  · split
    · cases p
      · exact s.hFrameEnd_acts _
      · exact s.fFrameEnd_acts _
    · exact .single hheard
    · exact .single (s.closeReception_act p h)

theorem State.receive_acts (s : State) (p : Port) (x : LineItem) : Acts s (s.receive p x) := by
  unfold State.receive
  split
  · exact s.noSymbol_acts p
  · exact (s.abandonFrame_acts p _).trans (State.noSymbol_acts _ p)
  · split
    · exact s.firstSymbol_acts p _
    · rename_i h
      exact s.acquiringSymbol_acts p _ h
    · rename_i h
      exact s.upSymbol_acts p _ h
    · exact s.resumed_acts p

/-! ## Ticks -/

theorem Acts.moves {s t : State} (h : Acts s t) : Moves s t :=
  h.lift id fun _ _ hact => .act _ _ hact

theorem State.tick_moves (s : State) (b : Bool) (hdone : s.staleDue = []) : Moves s (s.tick b) := by
  unfold State.tick
  split
  swap
  · exact .refl
  have hstart : Acts s { s with elapsed := 0 } := .single (.core (.elapsed s 0))
  dsimp only
  split
  · have hforced : Acts s ({ s with elapsed := 0 } : State).deadlineStep.forceIfDue :=
      (hstart.tail (.core (.deadline _))).trans (State.forceIfDue_acts _)
    exact (hforced.moves.tail (.age _ (hforced.staleDue hdone))).tail (.act _ _ (State.retryStep_act _))
  · exact ((hstart.moves.tail (.age _ hdone)).tail (.act _ _ (.core (.deadline _)))).tail (.act _ _ (State.retryStep_act _))

theorem State.advanceGenerator_moves (s : State) (hdone : s.staleDue = []) : Moves s s.advanceGenerator := by
  unfold State.advanceGenerator
  dsimp only
  split
  · exact (s.tick_moves false hdone).trans (State.finishTick_acts _).moves
  · exact .single (.act _ _ (.core (.elapsed s _)))

/-! ## Steps -/

/-- An event of a byte time with the withdrawal of the promotion that follows it. -/
theorem Acts.withdrawn {s t : State} (h : Acts s t) : Acts s t.withdrawPromotion := h.trans t.withdrawPromotion_acts

theorem Moves.withdrawn {s t : State} (h : Moves s t) : Moves s t.withdrawPromotion := h.trans t.withdrawPromotion_acts.moves

theorem State.runByte_moves (s : State) (x y : LineItem) (hrun : s.running = true) : Moves s (s.runByte x y) := by
  have hlines : Acts s.finishTick.withdrawPromotion
      (((s.finishTick.withdrawPromotion.receive .h x).withdrawPromotion.receive .f y).withdrawPromotion) :=
    (State.receive_acts _ .h x).withdrawn.trans (State.receive_acts _ .f y).withdrawn
  have htick : Acts s s.finishTick.withdrawPromotion := s.finishTick_acts.withdrawn
  have hdue := hlines.staleDue (s.finishTick.withdrawPromotion_acts.staleDue s.finishTick_staleDue)
  unfold State.runByte byteEvents
  simp only [List.foldl_cons, List.foldl_nil]
  generalize ((s.finishTick.withdrawPromotion.receive .h x).withdrawPromotion.receive .f y).withdrawPromotion = t
    at hlines hdue
  have ht : Acts s t := htick.trans hlines
  have hh : Acts t (t.transmit .h).withdrawPromotion := (t.transmit_acts .h (ht.running hrun)).withdrawn
  have hf : Acts (t.transmit .h).withdrawPromotion
      ((t.transmit .h).withdrawPromotion.transmit .f).withdrawPromotion :=
    (State.transmit_acts _ .f (hh.running (ht.running hrun))).withdrawn
  have hgen := (State.advanceGenerator_moves _ (Acts.staleDue (hh.trans hf) hdue)).withdrawn
  have hsent := (Acts.moves ((ht.trans hh).trans hf)).trans hgen
  have hclaim := hsent.trans (Acts.moves (State.qualify_acts _)).withdrawn
  have hfield := hclaim.trans (Acts.moves (State.fieldStart_acts _)).withdrawn
  exact hfield.trans (Acts.moves (State.grant_acts _)).withdrawn

theorem State.powerStable_moves (s : State) : Moves s s.powerStable := by
  unfold State.powerStable
  split
  · rename_i n hn
    split
    · exact .single (.holdEnd s)
    · exact .single (.hold s n _ hn)
  · exact .refl

theorem State.byteTime_moves (s : State) : Moves s s.byteTime := by
  have hlines : Moves s s.advanceLines := .single (.lines s)
  unfold State.byteTime
  dsimp only
  split
  · rename_i n hn
    split
    · exact hlines.trans (State.powerStable_moves _)
    · exact hlines.tail (.hold _ n _ hn)
  · rename_i hpower
    split
    · rename_i hrstn
      exact hlines.trans (State.runByte_moves _ _ _ ((State.running_iff _).mpr ⟨hpower, hrstn⟩))
    · exact hlines

theorem State.rstnLow_moves (s : State) : Moves s s.rstnLow := by
  unfold State.rstnLow
  split
  · split
    · rename_i n hn
      exact .single (.rstn s false n hn)
    · obtain ⟨u, hacts, heq⟩ := s.pinResetStart_eq
      rw [heq]
      exact (Acts.moves hacts).tail (.silence u u.power false)
  · exact .refl

theorem State.rstnHigh_moves (s : State) : Moves s s.rstnHigh := by
  unfold State.rstnHigh
  split
  · exact .refl
  · split
    · rename_i n hn
      split
      · exact .single (.holdEnd s)
      · exact .single (.rstn s true n hn)
    · rename_i hpower
      exact .single (.pinHigh s hpower)

/-- A command's outcome is a next state, reached by updates of the device that end with the withdrawal of the promotion. -/
def Withdrawn (s : State) (o : Host.Outcome State Fault Refusal) : Prop :=
  ∃ u, Moves s u ∧ o = .next u.withdrawPromotion

theorem takeClaim_withdrawn (f : State → State) (s : State) (h : Moves s.finishTick (f s.finishTick)) :
    Withdrawn s (takeClaim f s) :=
  ⟨_, s.finishTick_acts.moves.trans h, rfl⟩

theorem takeClaim_withdrawn_of_acts (f : State → State) (s : State) (h : ∀ t, Acts t (f t)) :
    Withdrawn s (takeClaim f s) :=
  takeClaim_withdrawn f s (h _).moves

theorem takeNow_withdrawn (f : State → State) (s : State) (h : Moves s (f s)) : Withdrawn s (takeNow f s) := ⟨_, h, rfl⟩

theorem requestEnd_withdrawn (s : State) (o : Option Operation) (target tag op : Byte) (operands : List Byte)
    (ho : ∀ x ∈ o, x.Sound) : Withdrawn s (takeClaim (fun t => t.requestEnd o target tag op operands) s) :=
  takeClaim_withdrawn_of_acts (fun t => t.requestEnd o target tag op operands) s
    fun t => t.requestEnd_acts o target tag op operands ho

/-- Every command, as the updates it makes. -/
theorem exec_withdrawn (i : Instr) (s : State) : Withdrawn s (exec i s) := by
  have hsound : ∀ o : Operation, o.Sound → ∀ x ∈ some o, x.Sound := fun o ho x hx => Option.some.inj hx ▸ ho
  cases i with
  | powerOnReset => exact takeNow_withdrawn State.powerApplied s (.tail (.single (.holdEnd s)) (.silence _ _ _))
  | powerOnHoldEnd => exact takeNow_withdrawn State.powerStable s s.powerStable_moves
  | pinReset lowNs =>
    refine takeClaim_withdrawn (fun t => if Config.rstnMinNs ≤ lowNs then t.rstnLow else t) s ?_
    split
    · exact State.rstnLow_moves _
    · exact .refl
  | pinResetRelease => exact takeClaim_withdrawn State.rstnHigh s (State.rstnHigh_moves _)
  | firstRecognisedSymbol p y => exact takeClaim_withdrawn_of_acts (fun t => t.firstSymbol p y) s fun t => t.firstSymbol_acts p y
  | acquisitionComplete p => exact takeClaim_withdrawn_of_acts (fun t => t.acquired p) s fun t => t.acquired_acts p
  | acquisitionTimeout p => exact takeClaim_withdrawn_of_acts (fun t => t.acquisitionLost p) s fun t => t.acquisitionLost_acts p
  | lineInterrupted p => exact takeClaim_withdrawn_of_acts (fun t => t.interrupted p) s fun t => t.interrupted_acts p
  | lineResumed p y => exact takeClaim_withdrawn_of_acts (fun t => t.resumed p) s fun t => t.resumed_acts p
  | lineDownTimeout p => exact takeClaim_withdrawn_of_acts (fun t => t.lineLost p) s fun t => t.lineLost_acts p
  | frameStart p => exact takeClaim_withdrawn_of_acts (fun t => t.openFrame p) s fun t => t.openFrame_acts p
  | frameAbandon p cause => exact takeClaim_withdrawn_of_acts (fun t => t.abandonFrame p cause) s fun t => t.abandonFrame_acts p cause
  | sampleFrame bytes => exact takeClaim_withdrawn_of_acts (fun t => t.fFrameEnd bytes) s fun t => t.fFrameEnd_acts bytes
  | transitFrame bytes => exact takeClaim_withdrawn_of_acts (fun t => t.fFrameEnd bytes) s fun t => t.fFrameEnd_acts bytes
  | enumeration mode next flags tag =>
    exact takeClaim_withdrawn_of_acts (fun t => t.enumerationEnd mode next flags tag) s fun t => t.enumerationEnd_acts mode next flags tag
  | identify target tag l => exact requestEnd_withdrawn s _ target tag _ l (hsound _ opIdentify_sound)
  | readEntry target tag l => exact requestEnd_withdrawn s _ target tag _ l (hsound _ opReadEntry_sound)
  | writeEntry target tag l => exact requestEnd_withdrawn s _ target tag _ l (hsound _ opWriteEntry_sound)
  | readState target tag l => exact requestEnd_withdrawn s _ target tag _ l (hsound _ opReadState_sound)
  | mapAdd target tag l => exact requestEnd_withdrawn s _ target tag _ l (hsound _ opMapAdd_sound)
  | mapRemove target tag l => exact requestEnd_withdrawn s _ target tag _ l (hsound _ opMapRemove_sound)
  | mapList target tag l => exact requestEnd_withdrawn s _ target tag _ l (hsound _ opMapList_sound)
  | commit target tag l => exact requestEnd_withdrawn s _ target tag _ l (hsound _ opCommit_sound)
  | reportAck target tag l => exact requestEnd_withdrawn s _ target tag _ l (hsound _ opReportAck_sound)
  | tripAck target tag l => exact requestEnd_withdrawn s _ target tag _ l (hsound _ opTripAck_sound)
  | readSettings target tag l => exact requestEnd_withdrawn s _ target tag _ l (hsound _ opReadSettings_sound)
  | writeSettings target tag l => exact requestEnd_withdrawn s _ target tag _ l (hsound _ opWriteSettings_sound)
  | reset target tag l => exact requestEnd_withdrawn s _ target tag _ l (hsound _ opReset_sound)
  | unknownOp op target tag l => exact requestEnd_withdrawn s _ target tag op l (operationOf_sound op)
  | frameClaim => exact takeClaim_withdrawn_of_acts State.qualify s State.qualify_acts
  | tick b => exact takeClaim_withdrawn (fun t => t.tick b) s (State.tick_moves _ b s.finishTick_staleDue)
  | stale e =>
    refine takeNow_withdrawn (fun t => if t.staleDue.contains e then t.staleUpTo e else t) s ?_
    split
    · exact (s.staleUpTo_acts e).moves
    · exact .refl
  | deadlineForcing =>
    exact takeNow_withdrawn (fun t => t.finishStale.forceIfDue) s
      (Acts.moves (s.finishStale_acts.trans (State.forceIfDue_acts _)))
  | retryExpiry n => exact takeNow_withdrawn (fun t => t.expire n) s (s.expire_acts n).moves
  | grant => exact takeClaim_withdrawn_of_acts State.grant s State.grant_acts
  | hTransmissionComplete => exact takeClaim_withdrawn_of_acts State.headComplete s State.headComplete_acts
  | fTransmitStart => exact takeClaim_withdrawn_of_acts State.fieldStart s State.fieldStart_acts
  | fTransmissionComplete => exact takeClaim_withdrawn_of_acts State.fieldComplete s State.fieldComplete_acts
  | hReceiveDiscard bytes => exact takeClaim_withdrawn_of_acts (fun t => t.hFrameEnd bytes) s fun t => t.hFrameEnd_acts bytes

/-- A step takes the front command with the rest of the queue, or is one byte time. -/
theorem step_cases (s t : State) (h : step s = .next t) :
    (s.pending = [] ∧ t = s.byteTime)
      ∨ ∃ i rest, s.pending = i :: rest ∧ exec i { s with pending := rest } = .next t := by
  unfold step at h
  split at h
  · rename_i hnil
    exact .inl ⟨hnil, (Host.Outcome.next.inj h).symm⟩
  · rename_i i rest hcons
    exact .inr ⟨i, rest, hcons, h⟩

/-- What a step can do: the front command leaves the queue, and the updates of the device follow, one after another. -/
theorem step_moves (s t : State) (h : step s = .next t) : ∃ rest, Moves { s with pending := rest } t := by
  rcases step_cases s t h with ⟨-, rfl⟩ | ⟨i, rest, -, hexec⟩
  · exact ⟨s.pending, s.byteTime_moves⟩
  · obtain ⟨u, hmoves, heq⟩ := exec_withdrawn i { s with pending := rest }
    obtain rfl := Host.Outcome.next.inj (heq.symm.trans hexec)
    exact ⟨rest, hmoves.withdrawn⟩

/-- What every update keeps, and the queue of commands has no bearing on, every step keeps. -/
theorem step_keeps (P : State → Prop) (hmove : ∀ s t, Move s t → P s → P t)
    (hpending : ∀ s l, P s → P { s with pending := l }) (s t : State) (hs : P s) (h : step s = .next t) : P t := by
  obtain ⟨rest, hmoves⟩ := step_moves s t h
  exact chain_keeps P hmove hmoves (hpending s rest hs)

theorem Move.pending {s t : State} (h : Move s t) : t.pending = s.pending := by
  cases h with
  | act t hact =>
    obtain ⟨-, -, hpending, -⟩ := hact.undisturbed
    exact hpending
  | _ => rfl

/-- Settles O3: no update of the device reaches the queue of commands. -/
theorem execKeepsTheCommandQueue : Obligations.ExecKeepsTheCommandQueue := by
  intro i s t h
  obtain ⟨u, hmoves, heq⟩ := exec_withdrawn i s
  obtain rfl := Host.Outcome.next.inj (heq.symm.trans h)
  exact chain_keeps (fun t => t.pending = s.pending) (fun _ _ hmove hs => hmove.pending.trans hs) hmoves.withdrawn rfl

end Sys2Proof.Machine
end

section
/-! SUPPORT. The laws of the ports, the inbound queue, the unacknowledged list, the agent and the report queue, kept by every
update and so by every step. -/

namespace Sys2Proof.Machine

open Sys2Proof Relation

/-! ## The state at reset -/

/-- Settles O6: the laws are decidable, and the state at reset is one state. -/
theorem resetMeetsEveryLaw : Obligations.ResetMeetsEveryLaw := by
  refine ⟨?_, ?_, ?_, ?_, ?_, ?_, ?_, ?_, ?_, ?_, ?_⟩ <;> decide +kernel

/-- What an update of the device keeps and the end of a power-on hold restores, every step keeps, where the supply, the ports
and the queue of commands have no bearing on it. -/
theorem step_keeps_of_act (P : State → Prop) (hact : ∀ s t, Act s t → P s → P t) (hage : ∀ s, P s → P s.ageStep)
    (hreset : ∀ s : State, P s.holdEnd)
    (hports : ∀ s (x : Power) (b : Bool) (h f : PortSides) (n : Nat) (l : List Instr), P s →
      P { s with power := x, rstn := b, hPort := h, fPort := f, elapsed := n, pending := l })
    (s t : State) (hs : P s) (h : step s = .next t) : P t := by
  refine step_keeps P (fun u v hmove hu => ?_) (fun u l hu => hports u u.power u.rstn u.hPort u.fPort u.elapsed l hu) s t hs h
  cases hmove with
  | act _ hu' => exact hact _ _ hu' hu
  | age => exact hage _ hu
  | holdEnd => exact hreset _
  | silence x b => exact hports u x b _ _ u.elapsed u.pending hu
  | hold m n => exact hports u (.hold n) u.rstn u.hPort u.fPort u.elapsed u.pending hu
  | rstn b n => exact hports u u.power b u.hPort u.fPort u.elapsed u.pending hu
  | pinHigh => exact hports u u.power true _ _ 0 u.pending hu
  | lines => exact hports u u.power u.rstn _ _ u.elapsed u.pending hu

/-! ## What the updates of the channel table leave as it was -/

/-- Power, ports, inbound queue, unacknowledged list, promotion counter and agent are as they were. -/
structure State.SameSides (s t : State) : Prop where
  power : t.power = s.power
  rstn : t.rstn = s.rstn
  hPort : t.hPort = s.hPort
  fPort : t.fPort = s.fPort
  inbound : t.inbound = s.inbound
  unacked : t.report.unacked = s.report.unacked
  nextSequence : t.report.nextSequence = s.report.nextSequence
  promotion : t.promotion = s.promotion
  agent : t.agent = s.agent

theorem State.SameSides.trans {s t u : State} (h : s.SameSides t) (k : t.SameSides u) : s.SameSides u :=
  ⟨k.power.trans h.power, k.rstn.trans h.rstn, k.hPort.trans h.hPort, k.fPort.trans h.fPort, k.inbound.trans h.inbound,
    k.unacked.trans h.unacked, k.nextSequence.trans h.nextSequence, k.promotion.trans h.promotion, k.agent.trans h.agent⟩

theorem State.raise_sameSides (s : State) (ev : Event) : s.SameSides (s.raise ev) :=
  ⟨by simp, by simp, by simp, by simp, by simp, by simp, by simp, by simp, by simp⟩

theorem Work.sameSides {s t : State} (h : Work s t) : s.SameSides t := by
  cases h with
  | raise ev => exact s.raise_sameSides ev
  | _ => exact ⟨rfl, rfl, rfl, rfl, rfl, rfl, rfl, rfl, rfl⟩

theorem Works.sameSides {s t : State} (h : Works s t) : s.SameSides t :=
  chain_keeps (fun t => s.SameSides t) (fun _ _ hwork hs => hs.trans hwork.sameSides) h
    ⟨rfl, rfl, rfl, rfl, rfl, rfl, rfl, rfl, rfl⟩

theorem State.mapChange_sameSides (s : State) (e : Nat) : s.SameSides (s.mapChange e) := by
  obtain ⟨t, hworks, heq⟩ := s.mapChange_works e
  obtain ⟨h1, h2, h3, h4, h5, h6, h7, h8, h9⟩ := hworks.sameSides
  rw [heq]
  exact ⟨h1, h2, h3, h4, h5, h6, h7, h8, h9⟩

theorem Core.sameSides {s t : State} (h : Core s t) : s.SameSides t := by
  cases h with
  | claim t hworks | wipe t hworks | stale t l hdue hleft hworks =>
    obtain ⟨h1, h2, h3, h4, h5, h6, h7, h8, h9⟩ := hworks.sameSides
    exact ⟨h1, h2, h3, h4, h5, h6, h7, h8, h9⟩
  | unmap node channel e =>
    obtain ⟨h1, h2, h3, h4, h5, h6, h7, h8, h9⟩ := State.mapChange_sameSides
      { s with map := s.map.filter fun k => !(k.node == node && k.channel == channel) } e
    exact ⟨h1, h2, h3, h4, h5, h6, h7, h8, h9⟩
  | deadline => exact ⟨by simp, by simp, by simp, by simp, by simp, by simp, by simp, by simp, by simp⟩
  | raise ev => exact s.raise_sameSides ev
  | _ => exact ⟨rfl, rfl, rfl, rfl, rfl, rfl, rfl, rfl, rfl⟩

/-! ## Ports and buffers (R1, R2, R3, R9, R16, R79) -/

/-- The laws of the ports and of the inbound queue together: a buffer in reception is one of the ten. -/
def State.portsLaw (s : State) : Prop := s.portLaw ∧ s.inboundLaw

theorem State.portsLaw_congr (s t : State) (hpower : t.power = s.power) (hrstn : t.rstn = s.rstn)
    (hh : t.hPort = s.hPort) (hf : t.fPort = s.fPort) (hinbound : t.inbound = s.inbound) (h : s.portsLaw) : t.portsLaw := by
  have hrunning : t.running = s.running := by rw [State.running, State.running, hpower, hrstn]
  have hinUse : t.inboundInUse = s.inboundInUse := by rw [State.inboundInUse, State.inboundInUse, hinbound, hf]
  unfold State.portsLaw State.portLaw State.inboundLaw
  rw [hrunning, hh, hf, hinbound, hinUse]
  exact h

theorem PortSides.held_iff (x : PortSides) :
    x.held = true ↔ x.rx = RxSide.inDown ∧ x.tx.frame = none ∧ x.tx.out = .silence := by
  simp [PortSides.held, and_assoc]

/-- A receive side that keeps its range and opens no frame without a buffer. -/
theorem State.portsLaw_setRx (s : State) (p : Port) (r : RxSide) (hwf : (s.port p).rx.wf = true → r.wf = true)
    (hdown : s.running = false → (s.port p).rx = RxSide.inDown → r = RxSide.inDown)
    (hroom : p = .f → r.receiving = true → s.fPort.rx.receiving = true ∨ s.inbound.length < 10) (h : s.portsLaw) :
    (s.setRx p r).portsLaw := by
  obtain ⟨⟨hh, hf, hhg, hfg, hheld⟩, hinUse, htail⟩ := h
  simp only [PortSides.held_iff] at hheld
  cases p with
  | h =>
    refine ⟨⟨hwf hh, hf, hhg, hfg, fun hstop => ?_⟩, hinUse, htail⟩
    obtain ⟨⟨hrx, hframe, hout⟩, hheldF⟩ := hheld hstop
    exact ⟨(PortSides.held_iff _).mpr ⟨hdown hstop hrx, hframe, hout⟩, (PortSides.held_iff _).mpr hheldF⟩
  | f =>
    refine ⟨⟨hh, hwf hf, hhg, hfg, fun hstop => ?_⟩, ?_, htail⟩
    · obtain ⟨hheldH, hrx, hframe, hout⟩ := hheld hstop
      exact ⟨(PortSides.held_iff _).mpr hheldH, (PortSides.held_iff _).mpr ⟨hdown hstop hrx, hframe, hout⟩⟩
    · have hroom := hroom rfl
      unfold State.inboundInUse at hinUse ⊢
      simp only [State.setRx]
      by_cases hopen : r.receiving = true
      · rcases hroom hopen with hbefore | hfree
        · simpa [hopen, hbefore] using hinUse
        · simpa [hopen] using hfree
      · simpa [hopen] using (Nat.le_add_right _ _).trans hinUse

theorem State.portsLaw_setTx (s : State) (p : Port) (x : TxSide) (hgap : (s.port p).tx.longGap ≤ 16 → x.longGap ≤ 16)
    (hruns : s.running = true ∨ (s.port p).tx.frame ≠ none) (h : s.portsLaw) : (s.setTx p x).portsLaw := by
  obtain ⟨⟨hh, hf, hhg, hfg, hheld⟩, hinUse, htail⟩ := h
  have hrunning : s.running = true := by
    by_contra hstop
    obtain ⟨hheldH, hheldF⟩ := hheld (by simpa using hstop)
    obtain ⟨-, hframeH, -⟩ := (PortSides.held_iff _).mp hheldH
    obtain ⟨-, hframeF, -⟩ := (PortSides.held_iff _).mp hheldF
    rcases hruns with hr | hframe
    · exact hstop hr
    · cases p
      · exact hframe hframeH
      · exact hframe hframeF
  have hrunning' : (s.setTx p x).running = true := by
    rw [State.running_iff] at hrunning ⊢
    simpa using hrunning
  cases p with
  | h => exact ⟨⟨hh, hf, hgap hhg, hfg, fun hstop => by simp [hrunning'] at hstop⟩, hinUse, htail⟩
  | f => exact ⟨⟨hh, hf, hhg, hgap hfg, fun hstop => by simp [hrunning'] at hstop⟩, hinUse, htail⟩

/-- The frame in reception joins the queue: its buffer was one of the ten already (R11, R79). -/
theorem State.portsLaw_join (s : State) (f : InboundFrame) (hstate : f.state ≠ .inTransmission)
    (hup : s.fPort.rx.state = .up) (hopen : s.fPort.rx.receiving = true) (h : s.portsLaw) :
    ({ s.closeReception .f with inbound := s.inbound ++ [f] } : State).portsLaw := by
  have hclosed : RxSide.wf { s.fPort.rx with silence := 0, reception := .between } = true := by
    obtain ⟨⟨-, hf, -⟩, -⟩ := h
    obtain ⟨-, -, -, hidle, -⟩ := (RxSide.wf_iff _).mp hf
    exact RxSide.wf_between _ rfl (by simp [hup]) hidle (by simp [hup])
  obtain ⟨⟨hh, hf, hhg, hfg, hheld⟩, hinUse, htail⟩ := h
  refine ⟨⟨hh, hclosed, hhg, hfg, fun hstop => ?_⟩, ?_, fun g hg => ?_⟩
  · obtain ⟨-, hheldF⟩ := hheld hstop
    obtain ⟨hrx, -⟩ := (PortSides.held_iff _).mp hheldF
    rw [hrx] at hup
    cases hup
  · unfold State.inboundInUse at hinUse ⊢
    simp only [hopen, if_true] at hinUse
    simpa [State.closeReception, State.setRx, RxSide.receiving] using hinUse
  · rcases List.mem_append.mp (List.mem_of_mem_tail hg) with hold | hnew
    · cases hl : s.inbound with
      | nil => simp [hl] at hold
      | cons x rest =>
        simp only [hl, List.cons_append, List.tail_cons, List.mem_append, List.mem_singleton] at hg
        rcases hg with hrest | rfl
        · exact htail g (by simpa [hl] using hrest)
        · exact hstate
    · rw [List.mem_singleton.mp hnew]
      exact hstate

theorem Act.portsLaw {s t : State} (h : Act s t) (hs : s.portsLaw) : t.portsLaw := by
  cases h with
  | core hcore =>
    have hsame := hcore.sameSides
    exact s.portsLaw_congr _ hsame.power hsame.rstn hsame.hPort hsame.fPort hsame.inbound hs
  | inbound l hlength htail =>
    obtain ⟨hports, hinUse, hl⟩ := hs
    refine ⟨hports, ?_, htail hl⟩
    unfold State.inboundInUse at hinUse ⊢
    dsimp only
    omega
  | join f hstate hup hopen => exact s.portsLaw_join f hstate hup hopen hs
  | rx p r hwf hdown hroom => exact s.portsLaw_setRx p r hwf hdown hroom hs
  | tx p x hgap hruns => exact s.portsLaw_setTx p x hgap hruns hs
  | _ => exact s.portsLaw_congr _ rfl rfl rfl rfl rfl hs

theorem Move.portsLaw {s t : State} (h : Move s t) (hs : s.portsLaw) : t.portsLaw := by
  obtain ⟨⟨hh, hf, hhg, hfg, hheld⟩, hinUse, htail⟩ := id hs
  have hroom : s.inbound.length ≤ 10 := (Nat.le_add_right _ _).trans hinUse
  have hstill : ∀ u : State, u.hPort = s.hPort → u.fPort = s.fPort → u.inbound = s.inbound → s.running = false →
      u.portsLaw := fun u hhPort hfPort hinbound hstop => by
    have hinUse' : u.inboundInUse = s.inboundInUse := by rw [State.inboundInUse, State.inboundInUse, hinbound, hfPort]
    unfold State.portsLaw State.portLaw State.inboundLaw
    rw [hhPort, hfPort, hinbound, hinUse']
    exact ⟨⟨hh, hf, hhg, hfg, fun _ => hheld hstop⟩, hinUse, htail⟩
  cases h with
  | act _ hact => exact hact.portsLaw hs
  | age => exact s.portsLaw_congr _ rfl rfl rfl rfl rfl hs
  | holdEnd =>
    obtain ⟨-, -, -, -, -, hinbound, hport, -⟩ := resetMeetsEveryLaw
    exact ⟨hport, hinbound⟩
  | silence x b =>
    exact ⟨⟨RxSide.inDown_wf, RxSide.inDown_wf, Nat.zero_le _, Nat.zero_le _, fun _ => ⟨rfl, rfl⟩⟩, hroom, htail⟩
  | hold m n hhold => exact hstill _ rfl rfl rfl (by simp [State.running, hhold])
  | rstn b n hhold => exact hstill _ rfl rfl rfl (by simp [State.running, hhold])
  | pinHigh hpower =>
    exact ⟨⟨RxSide.inDown_wf, RxSide.inDown_wf, Nat.zero_le _, Nat.zero_le _,
      fun hstop => by simp [State.running, hpower] at hstop⟩, hroom, htail⟩
  | lines => exact ⟨⟨hh, hf, hhg, hfg, hheld⟩, hinUse, htail⟩

/-- Settles O57: by the updates of a step. -/
theorem stepKeepsThePortAndBufferLaws : Obligations.StepKeepsThePortAndBufferLaws := fun s t hport hinbound h =>
  step_keeps State.portsLaw (fun _ _ => Move.portsLaw)
    (fun u l hu => u.portsLaw_congr { u with pending := l } rfl rfl rfl rfl rfl hu) s t ⟨hport, hinbound⟩ h

/-! ## The unacknowledged list and the address (R123, R125, R144) -/

/-- The law of the list with the law of the address. -/
def State.listedLaw (s : State) : Prop := s.listLaw ∧ s.addressLaw

theorem State.listedLaw_congr (s t : State) (hunacked : t.report.unacked = s.report.unacked)
    (hnext : t.report.nextSequence = s.report.nextSequence) (hsettings : t.agent.settings = s.agent.settings)
    (haddress : t.agent.address = none → s.agent.address = none)
    (hresponses : s.agent.responses = [] → t.agent.responses = []) (h : s.listedLaw) : t.listedLaw := by
  obtain ⟨hlist, hlaw⟩ := h
  refine ⟨?_, fun hnone => ?_⟩
  · unfold State.listLaw
    rw [hunacked, hnext, hsettings]
    exact hlist
  · obtain ⟨hr, hu⟩ := hlaw (haddress hnone)
    exact ⟨hresponses hr, hunacked.trans hu⟩

theorem Act.listedLaw {s t : State} (h : Act s t) (hs : s.listedLaw) : t.listedLaw := by
  cases h with
  | core hcore =>
    have hsame := hcore.sameSides
    exact s.listedLaw_congr _ hsame.unacked hsame.nextSequence (by rw [hsame.agent]) (by rw [hsame.agent]; exact id)
      (by rw [hsame.agent]; exact id) hs
  | list l n hlaw hnone =>
    obtain ⟨hlist, haddress⟩ := hs
    refine ⟨hlaw hlist, fun hn => ?_⟩
    obtain ⟨hr, hu⟩ := haddress hn
    exact ⟨hr, hnone hn hu⟩
  | respond r hroom hpayload haddress => exact ⟨hs.1, fun hn => absurd hn haddress⟩
  | responses l hsub =>
    exact s.listedLaw_congr _ rfl rfl rfl id (fun hr => by simpa [hr] using hsub) hs
  | settings x hlimit =>
    obtain ⟨hlist, haddress⟩ := hs
    obtain ⟨hlen, hseq, hframes, -⟩ := s.listLaw_iff.mp hlist
    exact ⟨(State.listLaw_iff _).mpr ⟨hlen, hseq, hframes, hlimit⟩, haddress⟩
  | address a hrange => exact s.listedLaw_congr _ rfl rfl rfl (by simp) id hs
  | unassign hresponses hunacked => exact ⟨hs.1, fun _ => ⟨hresponses, hunacked⟩⟩
  | join f | rx p r | tx p x => exact s.listedLaw_congr _ (by simp) (by simp) (by simp) (by simp) (by simp) hs
  | _ => exact s.listedLaw_congr _ rfl rfl rfl id id hs

/-- Settles O54: by the updates of a step. -/
theorem stepKeepsTheListAndAddressLaws : Obligations.StepKeepsTheListAndAddressLaws := fun s t hlist haddress h =>
  step_keeps_of_act State.listedLaw (fun _ _ => Act.listedLaw)
    (fun u hu => u.listedLaw_congr _ rfl rfl rfl id id hu)
    (fun u => by
      obtain ⟨-, hl, ha, -⟩ := resetMeetsEveryLaw
      exact ⟨hl, ha⟩)
    (fun u _ _ _ _ _ _ hu => u.listedLaw_congr _ rfl rfl rfl id id hu)
    s t ⟨hlist, haddress⟩ h

end Sys2Proof.Machine
end

section
/-! SUPPORT. The laws of the agent, of the promotion counter and of the report queue, kept by every update and so by every step. -/

namespace Sys2Proof.Machine

open Sys2Proof Relation

/-! ## The agent (R152, R157, R158, R160, R161) -/

theorem State.agentLaw_congr (s t : State) (hagent : t.agent = s.agent) (h : s.agentLaw) : t.agentLaw := by
  unfold State.agentLaw
  rw [hagent]
  exact h

/-- A tag that is no repeat is none of the tags recorded (R157). -/
theorem State.recentStatus_eq_none_iff (s : State) (tag : Byte) :
    s.recentStatus tag = none ↔ tag ∉ s.agent.recent.map (·.1) := by
  simp only [State.recentStatus, Option.map_eq_none_iff, List.find?_eq_none, List.mem_map, not_exists, not_and, beq_iff_eq]

/-- The recent-request list keeps its four places and its distinct tags (R157). -/
theorem State.record_recent (s : State) (tag : Byte) (status : Status) (hnew : s.recentStatus tag = none)
    (hlen : s.agent.recent.length ≤ 4) (hnodup : (s.agent.recent.map (·.1)).Nodup) :
    (s.record tag status).agent.recent.length ≤ 4 ∧ ((s.record tag status).agent.recent.map (·.1)).Nodup := by
  have hkept : ∀ l : List (Byte × Status), l.Sublist s.agent.recent → l.length ≤ 3 →
      (l ++ [(tag, status)]).length ≤ 4 ∧ ((l ++ [(tag, status)]).map (·.1)).Nodup := fun l hsub hl => by
    have htag := mt (fun hmem => (hsub.map (·.1)).subset hmem) ((s.recentStatus_eq_none_iff tag).mp hnew)
    have hnd := hnodup.sublist (hsub.map (·.1))
    refine ⟨by simpa using Nat.lt_succ_of_le hl, ?_⟩
    rw [List.map_append, List.map_singleton, List.nodup_append]
    exact ⟨hnd, List.nodup_singleton _, fun x hx y hy hxy => htag ((hxy.trans (List.mem_singleton.mp hy) : x = tag) ▸ hx)⟩
  unfold State.record
  dsimp only
  split
  · rename_i h
    exact hkept _ (List.Sublist.refl _) (by simpa [Config.recentCapacity, Nat.lt_succ_iff] using h)
  · refine hkept _ (List.drop_sublist _ _) ?_
    simp only [List.length_drop, Config.recentCapacity]
    omega

theorem Act.agentLaw {s t : State} (h : Act s t) (hs : s.agentLaw) : t.agentLaw := by
  obtain ⟨haddress, hlen, hpayload, hrecent, hnodup, hout, hcounters⟩ := id hs
  cases h with
  | core hcore => exact s.agentLaw_congr _ hcore.sameSides.agent hs
  | counters c hlaw => exact hlaw hs
  | outbound l hlength => exact ⟨haddress, hlen, hpayload, hrecent, hnodup, hlength hout, hcounters⟩
  | respond r hroom hp =>
    refine ⟨haddress, ?_, fun x hx => ?_, hrecent, hnodup, hout, hcounters⟩
    · simpa [State.respond] using hroom
    · rcases List.mem_append.mp hx with hold | hnew
      · exact hpayload x hold
      · rw [List.mem_singleton.mp hnew]
        exact hp
  | responses l hsub =>
    refine ⟨haddress, ?_, fun x hx => ?_, hrecent, hnodup, hout, hcounters⟩
    · have := hsub.length_le
      simp only [List.length_map] at this
      exact this.trans hlen
    · obtain ⟨y, hy, heq⟩ := List.mem_map.mp (hsub.subset (List.mem_map_of_mem hx))
      exact heq ▸ hpayload y hy
  | record tag status hnew =>
    obtain ⟨hl, hn⟩ := s.record_recent tag status hnew hrecent hnodup
    exact ⟨haddress, hlen, hpayload, hl, hn, hout, hcounters⟩
  | forget => exact ⟨haddress, hlen, hpayload, Nat.zero_le _, List.nodup_nil, hout, hcounters⟩
  | address a hrange =>
    exact ⟨fun x hx => by obtain rfl : a = x := by simpa using hx
                          exact hrange, hlen, hpayload, hrecent, hnodup, hout, hcounters⟩
  | unassign => exact ⟨by simp, hlen, hpayload, hrecent, hnodup, hout, hcounters⟩
  | join f | rx p r | tx p x => exact s.agentLaw_congr _ (by simp) hs
  | _ => exact hs

/-- Settles O55: by the updates of a step. -/
theorem stepKeepsTheAgentLaw : Obligations.StepKeepsTheAgentLaw :=
  step_keeps_of_act State.agentLaw (fun _ _ => Act.agentLaw) (fun _ hu => hu)
    (fun _ => by
      obtain ⟨-, -, -, hagent, -⟩ := resetMeetsEveryLaw
      exact hagent)
    fun _ _ _ _ _ _ _ hu => hu

/-! ## The promotion counter (R147) -/

theorem Act.promotion_le {s t : State} (h : Act s t) (hs : s.promotion ≤ 8) : t.promotion ≤ 8 := by
  cases h with
  | core hcore => rwa [hcore.sameSides.promotion]
  | promotion n hbound => exact hbound hs
  | join f | rx p r | tx p x => simpa using hs
  | _ => exact hs

/-- The promotion counter is 0 while the ROUTINE report claim is absent. -/
def State.Withheld (s : State) : Prop := s.routineClaim = false → s.promotion = 0

theorem State.withdrawPromotion_withheld (s : State) : s.withdrawPromotion.Withheld := by
  intro habsent
  unfold State.withdrawPromotion at habsent ⊢
  split
  · rename_i h
    simp [h] at habsent
  · rfl

theorem State.holdEnd_withheld (s : State) : s.holdEnd.Withheld := fun _ => rfl

theorem State.powerStable_withheld (s : State) (h : s.Withheld) : s.powerStable.Withheld := by
  unfold State.powerStable
  split
  · split
    · exact s.holdEnd_withheld
    · exact h
  · exact h

/-- A byte time ends with a withdrawal, or does nothing but receive and let the power-on hold pass. -/
theorem State.byteTime_withheld (s : State) (h : s.Withheld) : s.byteTime.Withheld := by
  unfold State.byteTime
  dsimp only
  split
  · split
    · exact State.powerStable_withheld _ h
    · exact h
  · split
    · unfold State.runByte byteEvents
      simp only [List.foldl_cons, List.foldl_nil]
      exact State.withdrawPromotion_withheld _
    · exact h

/-- Settles O56: the bound by the updates of a step, the rest by the withdrawal that ends it. -/
theorem stepKeepsThePromotionLaw : Obligations.StepKeepsThePromotionLaw := by
  intro s t ⟨hbound, hwithheld⟩ h
  refine ⟨step_keeps_of_act (fun s => s.promotion ≤ 8) (fun _ _ => Act.promotion_le) (fun _ hu => hu)
    (fun _ => Nat.zero_le 8) (fun _ _ _ _ _ _ _ hu => hu) s t hbound h, ?_⟩
  rcases step_cases s t h with ⟨-, rfl⟩ | ⟨i, rest, -, hexec⟩
  · exact s.byteTime_withheld hwithheld
  · obtain ⟨u, -, heq⟩ := exec_withdrawn i { s with pending := rest }
    obtain rfl := Host.Outcome.next.inj (heq.symm.trans hexec)
    exact u.withdrawPromotion_withheld

/-! ## The report queue (R113) -/

/-- The law of a report queue; its bound of 32 records follows from the two others. -/
def queueLaw (q : List ReportRecord) : Prop :=
  (q.map (·.subject)).Nodup ∧ generalRecords q ≤ 31 ∧ ∀ r ∈ q, r.wf

theorem queueLaw_length (q : List ReportRecord) (h : queueLaw q) : q.length ≤ 32 := by
  obtain ⟨hnodup, hgeneral, -⟩ := h
  have hloss := List.nodup_iff_count_le_one.mp hnodup .loss
  have hsplit := List.length_eq_countP_add_countP (fun r : ReportRecord => r.subject != .loss) (l := q)
  have hcount : List.countP (fun r : ReportRecord => !(r.subject != .loss)) q = (q.map (·.subject)).count .loss := by
    rw [List.count, List.countP_map]
    exact List.countP_congr fun r _ => by simp
  unfold generalRecords at hgeneral
  simp only [decide_not, Bool.decide_eq_true] at hsplit
  omega

theorem State.reportLaw_iff (s : State) : s.reportLaw ↔ queueLaw s.report.queue := by
  exact ⟨And.right, fun h => ⟨queueLaw_length _ h, h⟩⟩

theorem queueLaw_sublist (q r : List ReportRecord) (hsub : r.Sublist q) (h : queueLaw q) : queueLaw r := by
  obtain ⟨hnodup, hgeneral, hwf⟩ := h
  exact ⟨hnodup.sublist (hsub.map _), (hsub.countP_le).trans hgeneral, fun x hx => hwf x (hsub.subset hx)⟩

theorem queueLaw_map (q : List ReportRecord) (f : ReportRecord → ReportRecord) (hsubject : ∀ r, (f r).subject = r.subject)
    (hwf : ∀ r, r.wf → (f r).wf) (h : queueLaw q) : queueLaw (q.map f) := by
  obtain ⟨hnodup, hgeneral, hall⟩ := h
  refine ⟨?_, ?_, fun x hx => ?_⟩
  · rw [List.map_map]
    simpa [Function.comp_def, hsubject] using hnodup
  · rw [generalRecords, List.countP_map]
    simpa [Function.comp_def, hsubject, generalRecords] using hgeneral
  · obtain ⟨y, hy, rfl⟩ := List.mem_map.mp hx
    exact hwf y (hall y hy)

theorem queueLaw_append (q : List ReportRecord) (r : ReportRecord) (hnew : holdsSubject q r.subject = false)
    (hroom : r.subject ≠ .loss → generalRecords q < 31) (hwf : r.wf) (h : queueLaw q) : queueLaw (q ++ [r]) := by
  obtain ⟨hnodup, hgeneral, hall⟩ := h
  refine ⟨?_, ?_, fun x hx => ?_⟩
  · rw [List.map_append, List.map_singleton, List.nodup_append]
    refine ⟨hnodup, List.nodup_singleton _, fun x hx y hy hxy => ?_⟩
    obtain ⟨z, hz, rfl⟩ := List.mem_map.mp hx
    rw [holdsSubject, List.any_eq_false] at hnew
    exact hnew z hz (beq_iff_eq.mpr (hxy.trans (List.mem_singleton.mp hy)))
  · rw [generalRecords, List.countP_append, List.countP_singleton]
    by_cases hloss : r.subject = .loss
    · simpa [hloss, generalRecords] using hgeneral
    · rw [if_pos (bne_iff_ne.mpr hloss)]
      exact hroom hloss
  · rcases List.mem_append.mp hx with hold | hlast
    · exact hall x hold
    · rw [List.mem_singleton.mp hlast]
      exact hwf

theorem satAdd_repeat (n : Nat) (h : 1 ≤ n) : 1 ≤ satAdd Config.byteMax n 1 ∧ satAdd Config.byteMax n 1 ≤ 255 := by
  simp only [satAdd, Config.byteMax]
  omega

/-- An addition to the loss keeps the law: LOSS has a slot of its own (R113, R121). -/
theorem queueLaw_addLoss (c : Byte) (k : Nat) (q : List ReportRecord) (h : queueLaw q) : queueLaw (addLoss c k q) := by
  unfold addLoss
  split
  · refine queueLaw_map q _ (fun r => by split <;> rfl) (fun r hr => ?_) h
    obtain ⟨hloss, hfields, hlow, hhigh⟩ := id hr
    split
    · rename_i hl
      obtain ⟨-, hnone⟩ := hloss hl
      exact ⟨fun _ => ⟨rfl, hnone⟩, .inl hnone, satAdd_repeat _ hlow⟩
    · exact hr
  · rename_i hnew
    exact queueLaw_append q _ (by simpa using hnew) (fun hl => absurd rfl hl)
      ⟨fun _ => ⟨rfl, rfl⟩, .inl rfl, Nat.le_refl 1, Nat.one_le_ofNat⟩ h

/-- The record that an URGENT event displaces leaves its general slot to the event (R113, R117). -/
theorem generalRecords_erase (q : List ReportRecord) (h : queueLaw q) (hany : q.any (fun r => !r.urgent) = true) :
    generalRecords (q.eraseP fun r => !r.urgent) < 31 := by
  obtain ⟨-, hgeneral, hwf⟩ := h
  obtain ⟨a, ha, hroutine⟩ := List.any_eq_true.mp hany
  obtain ⟨b, before, after, -, hb, hq, herase⟩ := List.exists_of_eraseP (p := fun r => !r.urgent) ha hroutine
  have hgeneralRecord : b.subject ≠ .loss := fun hl => by
    obtain ⟨hloss, -⟩ := hwf b (by simp [hq])
    obtain ⟨hurgent, -⟩ := hloss hl
    simp [hurgent] at hb
  rw [herase]
  rw [hq] at hgeneral
  simp only [generalRecords, List.countP_append, List.countP_cons, bne_iff_ne.mpr hgeneralRecord, if_true] at hgeneral ⊢
  omega

/-- Every event of a subject other than LOSS keeps the law wherever it is placed (R117). -/
theorem queueLaw_placeEvent (c : Byte) (ev : Event) (q : List ReportRecord) (hsubject : ev.subject ≠ .loss)
    (hfields : ev.value = none ∨ ev.extra = none) (h : queueLaw q) : queueLaw (placeEvent c ev q) := by
  have hrecord : ev.record.wf := ⟨fun hl => absurd hl hsubject, hfields, Nat.le_refl 1, Nat.one_le_ofNat⟩
  unfold placeEvent
  split
  · refine queueLaw_map q _ (fun r => by split <;> rfl) (fun r hr => ?_) h
    split
    · rename_i hs
      obtain ⟨-, -, hlow, -⟩ := hr
      exact ⟨fun hl => absurd (hs.symm.trans hl) hsubject, hfields, satAdd_repeat _ hlow⟩
    · exact hr
  rename_i hnew
  have hnew : holdsSubject q ev.subject = false := by simpa using hnew
  split
  · rename_i hroom
    exact queueLaw_append q _ hnew (fun _ => hroom) hrecord h
  · split
    · rename_i hdisplace
      have hsub : (q.eraseP fun r => !r.urgent).Sublist q := List.eraseP_sublist
      refine queueLaw_addLoss _ _ _ (queueLaw_append _ _ ?_ (fun _ => generalRecords_erase q h hdisplace.2) hrecord
        (queueLaw_sublist q _ hsub h))
      rw [holdsSubject, List.any_eq_false] at hnew ⊢
      exact fun x hx => hnew x (hsub.subset hx)
    · exact queueLaw_addLoss _ _ _ h

theorem State.queueLaw_raise (s : State) (ev : Event) (hsubject : ev.subject ≠ .loss)
    (hfields : ev.value = none ∨ ev.extra = none) (h : queueLaw s.report.queue) : queueLaw (s.raise ev).report.queue := by
  rw [State.raise_queue]
  split
  · exact h
  · exact queueLaw_placeEvent _ ev _ hsubject hfields h

theorem Work.queueLaw {s t : State} (h : Work s t) (hs : queueLaw s.report.queue) : queueLaw t.report.queue := by
  cases h with
  | raise ev hsubject hfields => exact s.queueLaw_raise ev hsubject hfields hs
  | _ => exact hs

theorem Works.queueLaw {s t : State} (h : Works s t) (hs : queueLaw s.report.queue) : queueLaw t.report.queue :=
  chain_keeps (fun t => Machine.queueLaw t.report.queue) (fun _ _ => Work.queueLaw) h hs

theorem Core.queueLaw {s t : State} (h : Core s t) (hs : queueLaw s.report.queue) : queueLaw t.report.queue := by
  cases h with
  | claim t hworks | wipe t hworks | stale t l hdue hleft hworks => exact hworks.queueLaw hs
  | unmap node channel e =>
    obtain ⟨t, hworks, heq⟩ := State.mapChange_works
      { s with map := s.map.filter fun k => !(k.node == node && k.channel == channel) } e
    rw [heq]
    exact hworks.queueLaw hs
  | raise ev hsubject hstage hfields => exact s.queueLaw_raise ev hsubject hfields hs
  | lose k => exact queueLaw_addLoss _ _ _ hs
  | queue q hsub => exact queueLaw_sublist _ _ hsub hs
  | deadline => simpa using hs
  | _ => exact hs

theorem Act.queueLaw {s t : State} (h : Act s t) (hs : queueLaw s.report.queue) : queueLaw t.report.queue := by
  cases h with
  | core hcore => exact hcore.queueLaw hs
  | join f | rx p r | tx p x => simpa using hs
  | _ => exact hs

/-- Settles O53: by the updates of a step. -/
theorem stepKeepsTheReportQueueLaw : Obligations.StepKeepsTheReportQueueLaw := by
  intro s t hs h
  rw [State.reportLaw_iff] at hs ⊢
  exact step_keeps_of_act (fun s => queueLaw s.report.queue) (fun _ _ => Act.queueLaw) (fun _ hu => hu)
    (fun _ => by
      obtain ⟨hreport, -⟩ := resetMeetsEveryLaw
      exact (State.reportLaw_iff _).mp hreport)
    (fun _ _ _ _ _ _ _ hu => hu) s t hs h

end Sys2Proof.Machine
end

section
/-! SUPPORT. The generation law (R98), kept by every update and so by every step. -/

namespace Sys2Proof.Machine

open Sys2Proof Relation

/-- Each entry's live generation and waiting flag, all that the generation law reads of the table. -/
def State.flags (s : State) : List (Byte × Bool) := s.table.map fun x => (x.run.generation, x.run.waiting)

theorem State.mem_flags_iff (s : State) (y : Byte × Bool) :
    y ∈ s.flags ↔ ∃ e < s.table.length, ((s.entry e).run.generation, (s.entry e).run.waiting) = y := by
  unfold State.flags
  conv_lhs => rw [s.table_eq_map]
  simp

theorem State.generationLaw_iff (s : State) :
    s.generationLaw ↔ (∀ y ∈ s.flags, y.1 = if y.2 then s.commit.generation - 1 else s.commit.generation)
      ∧ (s.commit.pending = false → s.commit.deadline = 0 ∧ ∀ y ∈ s.flags, y.2 = false) := by
  simp [State.flags]

theorem State.generationLaw_congr (s t : State) (hflags : t.flags = s.flags)
    (hgeneration : t.commit.generation = s.commit.generation) (hpending : t.commit.pending = s.commit.pending)
    (hdeadline : t.commit.deadline = s.commit.deadline) (h : s.generationLaw) : t.generationLaw := by
  rw [State.generationLaw_iff] at h ⊢
  rwa [hflags, hgeneration, hpending, hdeadline]

theorem State.modifyRun_flags (s : State) (e : Nat) (f : RunState → RunState)
    (hf : ∀ r, (f r).generation = r.generation ∧ (f r).waiting = r.waiting) : (s.modifyRun e f).flags = s.flags := by
  unfold State.flags State.modifyRun
  apply List.ext_getElem?
  intro i
  simp only [List.getElem?_map, List.getElem?_modify]
  cases s.table[i]? with
  | none => rfl
  | some x =>
    by_cases h : e = i
    · simp [h, hf x.run]
    · simp [h]

theorem State.raise_flags (s : State) (ev : Event) : (s.raise ev).flags = s.flags := by
  have htally : (s.tally ev).flags = s.flags := by
    unfold State.tally
    split
    · exact s.modifyRun_flags _ _ fun r => ⟨rfl, rfl⟩
    all_goals rfl
  rw [← htally, State.flags, State.flags, State.raise_table]

/-- A switched entry holds generation C and does not wait (R101). -/
theorem State.switchedEntry_flags (s : State) (b : Bool) (e : Nat) (x : Entry) :
    (s.switchedEntry b e x).run.generation = s.commit.generation ∧ (s.switchedEntry b e x).run.waiting = false := by
  obtain ⟨⟨-, -, hgeneration, hwait, -⟩, -⟩ := s.switchedEntry_switchedTo b e x
  exact ⟨hgeneration, hwait⟩

/-- In a table whose entries each hold C without waiting or C − 1 waiting, the flags meet the law of a pending commit. -/
theorem State.generationLaw_of_entries (s : State)
    (hentry : ∀ e < s.table.length, (s.entry e).run.generation
      = if (s.entry e).run.waiting then s.commit.generation - 1 else s.commit.generation)
    (hidle : s.commit.pending = false → s.commit.deadline = 0 ∧ ∀ e < s.table.length, (s.entry e).run.waiting = false) :
    s.generationLaw := by
  rw [State.generationLaw_iff]
  refine ⟨fun y hy => ?_, fun hp => ?_⟩
  · obtain ⟨e, he, rfl⟩ := (s.mem_flags_iff y).mp hy
    exact hentry e he
  · obtain ⟨hdeadline, hwait⟩ := hidle hp
    refine ⟨hdeadline, fun y hy => ?_⟩
    obtain ⟨e, he, rfl⟩ := (s.mem_flags_iff y).mp hy
    exact hwait e he

theorem State.generation_of_law (s : State) (h : s.generationLaw) (e : Nat) (he : e < s.table.length) :
    (s.entry e).run.generation = if (s.entry e).run.waiting then s.commit.generation - 1 else s.commit.generation := by
  obtain ⟨hentry, -⟩ := h
  exact hentry _ ((s.mem_table_iff _).mpr ⟨e, he, rfl⟩)

theorem State.waiting_of_idle (s : State) (h : s.generationLaw) (hidle : s.commit.pending = false) (e : Nat)
    (he : e < s.table.length) : (s.entry e).run.waiting = false := by
  obtain ⟨-, hlaw⟩ := h
  obtain ⟨-, hwait⟩ := hlaw hidle
  exact hwait _ ((s.mem_table_iff _).mpr ⟨e, he, rfl⟩)

theorem State.deadline_of_idle (s : State) (h : s.generationLaw) (hidle : s.commit.pending = false) :
    s.commit.deadline = 0 := by
  obtain ⟨-, hlaw⟩ := h
  exact (hlaw hidle).1

theorem State.switchEntries_generationLaw (s : State) (chosen : Nat → Entry → Bool) (b : Bool) (h : s.generationLaw) :
    (s.switchEntries chosen b).generationLaw := by
  refine State.generationLaw_of_entries _ (fun e he => ?_) fun hidle => ⟨s.deadline_of_idle h hidle, fun e he => ?_⟩
  all_goals
    rw [State.switchEntries_length] at he
    obtain ⟨hgeneration, hwait⟩ := s.switchedEntry_flags b e (s.entry e)
    rw [s.switchEntries_entry chosen b e he]
    split
  · simpa [hwait] using hgeneration
  · exact s.generation_of_law h e he
  · exact hwait
  · exact s.waiting_of_idle h hidle e he

theorem State.accepting_length (s : State) (d : Nat) : (s.accepting d).table.length = s.table.length := by
  simp [State.accepting, State.acceptUnits]

/-- An entry of an accepted commit: switched under the new generation, or waiting with its run state (R99, R100). -/
theorem State.accepting_entry (s : State) (d e : Nat) (he : e < s.table.length) :
    (s.accepting d).entry e
      = if s.switchesAtOnce (s.unitLower e) then
          { s with commit := { s.commit with generation := s.commit.generation + 1, forcedCount := 0 } }.switchedEntry
            false e (s.entry e)
        else { s.entry e with run := { (s.entry e).run with waiting := true } } :=
  State.acceptUnits_entry { s with commit := { s.commit with generation := s.commit.generation + 1, forcedCount := 0 } } e he

/-- An acceptance starts from IDLE, so that the entries that join the waiting set are those under C − 1 (R98, R99). -/
theorem State.accepting_generationLaw (s : State) (d : Nat) (hidle : s.commit.pending = false) (h : s.generationLaw) :
    (s.accepting d).generationLaw := by
  refine State.generationLaw_of_entries _ (fun e he => ?_) (fun hp => by simp [State.accepting] at hp)
  rw [State.accepting_length] at he
  rw [s.accepting_entry d e he]
  have hbefore := s.generation_of_law h e he
  rw [s.waiting_of_idle h hidle e he] at hbefore
  split
  · obtain ⟨hgeneration, hwait⟩ := State.switchedEntry_flags
      { s with commit := { s.commit with generation := s.commit.generation + 1, forcedCount := 0 } } false e (s.entry e)
    rw [hgeneration, hwait]
    rfl
  · simpa [State.accepting, State.acceptUnits] using hbefore

theorem Work.generationLaw {s t : State} (h : Work s t) (hs : s.generationLaw) : t.generationLaw := by
  cases h with
  | raise ev => exact s.generationLaw_congr _ (s.raise_flags ev) (by simp) (by simp) (by simp) hs
  | run e f hkept => exact s.generationLaw_congr _ (s.modifyRun_flags e f hkept) rfl rfl rfl hs
  | switch chosen outOfTurn => exact s.switchEntries_generationLaw chosen outOfTurn hs
  | complete hwaits => exact ⟨hs.1, fun _ => ⟨rfl, hwaits⟩⟩
  | accept d hidle => exact s.accepting_generationLaw d hidle hs
  | _ => exact hs

theorem Works.generationLaw {s t : State} (h : Works s t) (hs : s.generationLaw) : t.generationLaw :=
  chain_keeps State.generationLaw (fun _ _ => Work.generationLaw) h hs

/-- The run-state resets of a reset find no commit pending (R44, R111). -/
theorem State.clearRuns_generationLaw (s : State) (hidle : s.commit.pending = false) (h : s.generationLaw) :
    s.clearRuns.generationLaw := by
  refine ⟨fun x hx => ?_, fun _ => ⟨s.deadline_of_idle h hidle, fun x hx => ?_⟩⟩ <;>
    obtain ⟨y, -, rfl⟩ := List.mem_map.mp hx <;> rfl

theorem Core.generationLaw {s t : State} (h : Core s t) (hs : s.generationLaw) : t.generationLaw := by
  cases h with
  | claim t hworks | stale t l hdue hleft hworks => exact hworks.generationLaw hs
  | unmap node channel e =>
    obtain ⟨t, hworks, heq⟩ := State.mapChange_works
      { s with map := s.map.filter fun k => !(k.node == node && k.channel == channel) } e
    rw [heq]
    exact hworks.generationLaw hs
  | wipe t hworks hidle => exact t.clearRuns_generationLaw hidle (hworks.generationLaw hs)
  | forgetTally e => exact s.generationLaw_congr _ (s.modifyRun_flags e _ fun r => ⟨rfl, rfl⟩) rfl rfl rfl hs
  | stage e r =>
    refine s.generationLaw_congr _ (List.ext_getElem? fun i => ?_) rfl rfl rfl hs
    simp only [State.flags, List.getElem?_map, List.getElem?_modify]
    cases s.table[i]? with
    | none => rfl
    | some x => by_cases h : e = i <;> simp [h]
  | deadline =>
    unfold State.deadlineStep
    split
    · rename_i hp
      exact ⟨hs.1, fun hidle => by simp [hp] at hidle⟩
    · exact hs
  | raise ev => exact s.generationLaw_congr _ (s.raise_flags ev) (by simp) (by simp) (by simp) hs
  | _ => exact hs

theorem State.generationLaw_of_eq (s t : State) (htable : t.table = s.table) (hcommit : t.commit = s.commit)
    (h : s.generationLaw) : t.generationLaw := by
  unfold State.generationLaw
  rwa [htable, hcommit]

/-- The map, the table, the work of a tick and the commit are as they were. -/
structure State.SameTable (s t : State) : Prop where
  map : t.map = s.map
  table : t.table = s.table
  staleDue : t.staleDue = s.staleDue
  commit : t.commit = s.commit

theorem Act.core_or_sameTable {s t : State} (h : Act s t) : Core s t ∨ s.SameTable t := by
  cases h with
  | core hcore => exact .inl hcore
  | join f | rx p r | tx p x => exact .inr ⟨by simp, by simp, by simp, by simp⟩
  | _ => exact .inr ⟨rfl, rfl, rfl, rfl⟩

theorem Act.generationLaw {s t : State} (h : Act s t) (hs : s.generationLaw) : t.generationLaw := by
  rcases h.core_or_sameTable with hcore | hsame
  · exact hcore.generationLaw hs
  · exact s.generationLaw_of_eq _ hsame.table hsame.commit hs

theorem State.ageStep_flags (s : State) : s.ageStep.flags = s.flags := by
  apply List.ext_getElem?
  intro i
  simp only [State.flags, State.ageStep, State.ageEntries, List.getElem?_map, mapEntries_getElem?]
  cases s.table[i]? with
  | none => rfl
  | some x =>
    simp only [Option.map_some]
    split <;> rfl

/-- Settles O58: by the updates of a step. -/
theorem stepKeepsTheGenerationLaw : Obligations.StepKeepsTheGenerationLaw :=
  step_keeps_of_act State.generationLaw (fun _ _ => Act.generationLaw)
    (fun s hu => s.generationLaw_congr _ s.ageStep_flags rfl rfl rfl hu)
    (fun _ => by
      obtain ⟨-, -, -, -, -, -, -, -, -, hgeneration, -⟩ := resetMeetsEveryLaw
      exact hgeneration)
    fun _ _ _ _ _ _ _ hu => hu

end Sys2Proof.Machine
end

section
/-! SUPPORT. The laws of the channel map and of the channel table, kept by every update of a state that keeps the generation law. -/

namespace Sys2Proof.Machine

open Sys2Proof Relation

/-! ## The channel map (R39, R40) -/

/-- One key, one place in the map. -/
theorem State.key_unique (s : State) (h : s.mapLaw) (a b : MapKey) (ha : a ∈ s.map) (hb : b ∈ s.map)
    (hnode : a.node = b.node) (hchannel : a.channel = b.channel) : a = b := by
  obtain ⟨hsorted, -⟩ := h
  have hunique : ∀ x ∈ s.map, ∀ y ∈ s.map, x.node = y.node ∧ x.channel = y.channel → x = y := by
    have hsymm : Std.Symm fun x y : MapKey => x.node = y.node ∧ x.channel = y.channel → x = y :=
      ⟨fun _ _ hxy hyx => (hxy ⟨hyx.1.symm, hyx.2.symm⟩).symm⟩
    have hpairs : s.map.Pairwise fun x y => x.node = y.node ∧ x.channel = y.channel → x = y :=
      hsorted.imp fun {x y} hbefore hkey => by
        simp only [MapKey.before, decide_eq_true_eq] at hbefore
        omega
    exact fun x hx y hy => hpairs.forall_of_forall (fun _ _ _ => rfl) hx hy
  exact hunique a ha b hb ⟨hnode, hchannel⟩

/-- One entry, one key. -/
theorem State.entry_unique (s : State) (h : s.mapLaw) (a b : MapKey) (ha : a ∈ s.map) (hb : b ∈ s.map)
    (hentry : a.entry = b.entry) : a = b := by
  obtain ⟨-, -, hnodup⟩ := h
  exact List.inj_on_of_nodup_map hnodup ha hb hentry

theorem State.mapped_iff (s : State) (e : Nat) : s.mapped e = true ↔ ∃ k ∈ s.map, k.entry = e := by
  simp [State.mapped]

theorem State.lookup_eq_none_iff (s : State) (node channel : Nat) :
    s.lookup node channel = none ↔ ∀ k ∈ s.map, ¬(k.node = node ∧ k.channel = channel) := by
  simp [State.lookup]

theorem State.exists_of_lookup (s : State) (node channel e : Nat) (h : s.lookup node channel = some e) :
    ∃ k ∈ s.map, k.node = node ∧ k.channel = channel ∧ k.entry = e := by
  simp only [State.lookup, Option.map_eq_some_iff] at h
  obtain ⟨k, hfind, he⟩ := h
  have hkey := List.find?_some hfind
  simp only [Bool.and_eq_true, beq_iff_eq] at hkey
  obtain ⟨hnode, hchannel⟩ := hkey
  exact ⟨k, List.mem_of_find?_eq_some hfind, hnode, hchannel, he⟩

theorem mem_insertKey_iff (k x : MapKey) (l : List MapKey) : x ∈ insertKey k l ↔ x = k ∨ x ∈ l := by
  induction l with
  | nil => simp [insertKey]
  | cons y rest ih =>
    unfold insertKey
    split
    · simp
    · simp only [List.mem_cons, ih]
      tauto

theorem MapKey.before_trans (a b c : MapKey) (hab : a.before b = true) (hbc : b.before c = true) : a.before c = true := by
  simp only [MapKey.before, decide_eq_true_eq] at *
  omega

theorem insertKey_pairwise (k : MapKey) (l : List MapKey) (hnew : ∀ x ∈ l, ¬(x.node = k.node ∧ x.channel = k.channel))
    (h : l.Pairwise fun a b => a.before b = true) : (insertKey k l).Pairwise fun a b => a.before b = true := by
  induction l with
  | nil => simp [insertKey]
  | cons y rest ih =>
    obtain ⟨hy, hrest⟩ := List.pairwise_cons.mp h
    unfold insertKey
    split
    · rename_i hk
      refine List.pairwise_cons.mpr ⟨fun x hx => ?_, h⟩
      rcases List.mem_cons.mp hx with rfl | hx
      · exact hk
      · exact MapKey.before_trans k y x hk (hy x hx)
    · rename_i hk
      refine List.pairwise_cons.mpr ⟨fun x hx => ?_, ih (fun x hx => hnew x (List.mem_cons_of_mem y hx)) hrest⟩
      rcases (mem_insertKey_iff k x rest).mp hx with rfl | hx
      · have hkey := hnew y List.mem_cons_self
        simp only [MapKey.before, decide_eq_true_eq] at hk ⊢
        omega
      · exact hy x hx

theorem insertKey_perm (k : MapKey) (l : List MapKey) : (insertKey k l).Perm (k :: l) := by
  induction l with
  | nil => exact .refl _
  | cons y rest ih =>
    unfold insertKey
    split
    · exact .refl _
    · exact (ih.cons y).trans (.swap k y rest)

/-- A new key to an entry that has none keeps the map's law (R39, R41). -/
theorem State.mapLaw_insertKey (s : State) (k : MapKey) (hrange : k.node < 64 ∧ k.channel < 16 ∧ k.entry < 96)
    (hkey : s.lookup k.node k.channel = none) (hentry : s.mapped k.entry = false) (h : s.mapLaw) :
    ({ s with map := insertKey k s.map } : State).mapLaw := by
  obtain ⟨hsorted, hranges, hnodup⟩ := h
  refine ⟨insertKey_pairwise k _ ((s.lookup_eq_none_iff _ _).mp hkey) hsorted, fun x hx => ?_, ?_⟩
  · rcases (mem_insertKey_iff k x _).mp hx with rfl | hx
    · exact hrange
    · exact hranges x hx
  · refine ((insertKey_perm k s.map).map (·.entry)).nodup_iff.mpr (List.nodup_cons.mpr ⟨fun hmem => ?_, hnodup⟩)
    obtain ⟨x, hx, hxe⟩ := List.mem_map.mp hmem
    simp [(s.mapped_iff k.entry).mpr ⟨x, hx, hxe⟩] at hentry

/-- The map without a key. -/
def State.withoutKey (s : State) (node channel : Nat) : List MapKey :=
  s.map.filter fun k => !(k.node == node && k.channel == channel)

theorem State.mem_withoutKey_iff (s : State) (node channel : Nat) (k : MapKey) :
    k ∈ s.withoutKey node channel ↔ k ∈ s.map ∧ ¬(k.node = node ∧ k.channel = channel) := by
  simp [State.withoutKey, imp_iff_not_or]

theorem State.mapLaw_withoutKey (s : State) (node channel : Nat) (h : s.mapLaw) :
    ({ s with map := s.withoutKey node channel } : State).mapLaw := by
  obtain ⟨hsorted, hranges, hnodup⟩ := h
  have hsub : (s.withoutKey node channel).Sublist s.map := List.filter_sublist
  exact ⟨hsorted.sublist hsub, fun k hk => hranges k (hsub.subset hk), hnodup.sublist (hsub.map _)⟩

/-- Without its key an entry is not mapped; every other entry is mapped as it was (R39). -/
theorem State.mapped_withoutKey (s : State) (node channel e : Nat) (h : s.mapLaw) (hkey : s.lookup node channel = some e)
    (i : Nat) : ({ s with map := s.withoutKey node channel } : State).mapped i = (s.mapped i && i != e) := by
  obtain ⟨k, hk, hnode, hchannel, hentry⟩ := s.exists_of_lookup node channel e hkey
  rw [Bool.eq_iff_iff, State.mapped_iff, Bool.and_eq_true, State.mapped_iff, bne_iff_ne]
  refine ⟨fun ⟨x, hx, hxi⟩ => ?_, fun ⟨⟨x, hx, hxi⟩, hne⟩ => ⟨x, ?_, hxi⟩⟩
  · obtain ⟨hx, hother⟩ := (s.mem_withoutKey_iff node channel x).mp hx
    refine ⟨⟨x, hx, hxi⟩, ?_⟩
    rintro rfl
    obtain rfl := s.entry_unique h x k hx hk (hxi.trans hentry.symm)
    exact hother ⟨hnode, hchannel⟩
  · refine (s.mem_withoutKey_iff node channel x).mpr ⟨hx, fun ⟨hn, hc⟩ => hne ?_⟩
    obtain rfl := s.key_unique h x k hx hk (hn.trans hnode.symm) (hc.trans hchannel.symm)
    exact hxi.symm.trans hentry

/-! ## The table's law (R32, R36, R38, R91) -/

theorem State.entryLaw_iff (s : State) (e : Nat) :
    s.entryLaw e ↔ (s.entry e).live.stored e ∧ (s.entry e).staging.stored e ∧ s.runOk e (s.entry e).run
      ∧ (s.entry e).run.waiting = (s.entry (s.unitLower e)).run.waiting :=
  ⟨fun ⟨h1, h2, h3, h4, h5, h6, h7, h8, h9⟩ => ⟨h1, h2, ⟨h3, h4, h5, h6, h7, h8⟩, h9⟩,
    fun ⟨h1, h2, ⟨h3, h4, h5, h6, h7, h8⟩, h9⟩ => ⟨h1, h2, h3, h4, h5, h6, h7, h8, h9⟩⟩

theorem State.runOk_congr (s t : State) (e : Nat) (r : RunState) (hlive : (t.entry e).live = (s.entry e).live)
    (hwatched : t.watched e = false → s.watched e = false) (h : s.runOk e r) : t.runOk e r := by
  obtain ⟨hpos, hcount, hidle, hrest⟩ := h
  exact ⟨hlive ▸ hpos, hlive ▸ hcount, fun hn => hidle (hwatched hn), hrest⟩

theorem State.unitUpper_congr (s t : State) (e : Nat) (h : ∀ i, (t.entry i).live = (s.entry i).live
    ∧ (t.entry i).staging = (s.entry i).staging) : t.unitUpper e = s.unitUpper e := by
  simp [State.unitUpper, State.pairUnit, h]

theorem State.unitLower_congr (s t : State) (e : Nat) (h : ∀ i, (t.entry i).live = (s.entry i).live
    ∧ (t.entry i).staging = (s.entry i).staging) : t.unitLower e = s.unitLower e := by
  rw [State.unitLower, State.unitLower, s.unitUpper_congr t e h]

theorem State.unitLower_le (s : State) (e : Nat) : s.unitLower e ≤ e := by
  unfold State.unitLower
  split <;> omega

/-- Changes to run states alone keep the law where each run state left is allowed and units wait together. -/
theorem State.tableLaw_of_slots (s t : State) (h : s.tableLaw) (hmap : t.mapLaw) (hlength : t.table.length = 96)
    (hslots : ∀ i, (t.entry i).live = (s.entry i).live ∧ (t.entry i).staging = (s.entry i).staging)
    (hrun : ∀ i < 96, t.runOk i (t.entry i).run)
    (hwait : ∀ i < 96, (t.entry i).run.waiting = (t.entry (s.unitLower i)).run.waiting) : t.tableLaw := by
  obtain ⟨-, -, hentry⟩ := h
  refine ⟨hlength, hmap, fun i hi => ?_⟩
  obtain ⟨hlive, hstaging, -⟩ := (s.entryLaw_iff i).mp (hentry i hi)
  obtain ⟨hl, hs⟩ := hslots i
  rw [t.entryLaw_iff, hl, hs, s.unitLower_congr t i hslots]
  exact ⟨hlive, hstaging, hrun i hi, hwait i hi⟩

theorem State.tableLaw_congr (s t : State) (hmap : t.map = s.map) (htable : t.table = s.table) (h : s.tableLaw) :
    t.tableLaw := by
  have hentry : ∀ i, t.entry i = s.entry i := fun i => s.entry_congr t i htable
  obtain ⟨hlength, hmapLaw, hlaw⟩ := id h
  refine s.tableLaw_of_slots t h ?_ (htable ▸ hlength) (fun i => by rw [hentry]; exact ⟨rfl, rfl⟩) (fun i hi => ?_)
    fun i hi => ?_
  · unfold State.mapLaw
    rwa [hmap]
  · obtain ⟨-, -, hrun, -⟩ := (s.entryLaw_iff i).mp (hlaw i hi)
    rw [hentry]
    exact s.runOk_congr t i _ (by rw [hentry])
      (fun hn => by rwa [s.watched_congr t i hmap fun j => by rw [hentry]] at hn) hrun
  · obtain ⟨-, -, -, hwait⟩ := (s.entryLaw_iff i).mp (hlaw i hi)
    rw [hentry, hentry]
    exact hwait

theorem State.modifyRun_waiting (s : State) (e i : Nat) (f : RunState → RunState)
    (hf : ∀ r, (f r).generation = r.generation ∧ (f r).waiting = r.waiting) :
    ((s.modifyRun e f).entry i).run.waiting = (s.entry i).run.waiting := by
  by_cases h : i = e
  · subst h
    by_cases hl : i < s.table.length
    · rw [s.modifyRun_entry_self i f hl]
      exact (hf _).2
    · rw [State.entry_of_le _ _ (by simpa using hl), State.entry_of_le s i (by omega)]
  · rw [s.modifyRun_entry_other e i f h]

/-- A change of one run state to one that the law allows (R32). -/
theorem State.tableLaw_modifyRun (s : State) (e : Nat) (f : RunState → RunState)
    (hkept : ∀ r, (f r).generation = r.generation ∧ (f r).waiting = r.waiting)
    (hok : s.entryLaw e → s.runOk e (f (s.entry e).run)) (h : s.tableLaw) : (s.modifyRun e f).tableLaw := by
  obtain ⟨hlength, hmap, hlaw⟩ := id h
  refine s.tableLaw_of_slots _ h hmap (by simpa using hlength) (fun i => s.modifyRun_slots e i f) (fun i hi => ?_)
    fun i hi => ?_
  · have hwatched := s.watched_congr (s.modifyRun e f) i rfl fun j => (s.modifyRun_slots e j f).1
    refine s.runOk_congr _ i _ (s.modifyRun_slots e i f).1 (fun hn => hwatched ▸ hn) ?_
    by_cases he : i = e
    · subst he
      rw [s.modifyRun_entry_self i f (hlength ▸ hi)]
      exact hok (hlaw i hi)
    · obtain ⟨-, -, hrun, -⟩ := (s.entryLaw_iff i).mp (hlaw i hi)
      rwa [s.modifyRun_entry_other e i f he]
  · obtain ⟨-, -, -, hwait⟩ := (s.entryLaw_iff i).mp (hlaw i hi)
    rwa [s.modifyRun_waiting e i f hkept, s.modifyRun_waiting e _ f hkept]

theorem State.tableLaw_raise (s : State) (ev : Event) (h : s.tableLaw) : (s.raise ev).tableLaw := by
  have htally : (s.tally ev).tableLaw := by
    unfold State.tally
    split
    · rename_i e _
      refine s.tableLaw_modifyRun e _ (fun r => ⟨rfl, rfl⟩) (fun hlaw => ?_) h
      obtain ⟨-, -, ⟨hpos, hcount, hidle, hage, hsplit, -⟩, -⟩ := (s.entryLaw_iff e).mp hlaw
      exact ⟨hpos, hcount, hidle, hage, hsplit, Nat.min_le_left _ _⟩
    all_goals exact h
  exact (s.tally ev).tableLaw_congr _ (by simp) (by simp) htally

/-! ## The switch of whole units (R36, R37, R38, R102) -/

/-- An entry that the switch leaves unwatched is IDLE at position 0 with age 0 (R36, R37, R91). -/
theorem State.switchedEntry_unwatched (s : State) (b : Bool) (e : Nat) (hrun : s.runOk e (s.entry e).run)
    (hperiod : 1 ≤ (s.entry e).staging.period)
    (hoff : s.mapped e = false ∨ (s.entry e).staging.enable = false
      ∨ (e % 2 == 1 && (s.entry (e - 1)).staging.pair) = true) :
    (s.switchedEntry b e (s.entry e)).run.condition = .idle ∧ (s.switchedEntry b e (s.entry e)).run.position = 0
      ∧ (s.switchedEntry b e (s.entry e)).run.age = 0 := by
  obtain ⟨-, -, hidle, hstay⟩ := s.switchedEntry_switchedTo b e (s.entry e)
  generalize s.switchedEntry b e (s.entry e) = y at hidle hstay
  obtain ⟨-, -, hbefore, -⟩ := hrun
  by_cases hbecomes : (s.entry e).staging.enable = false
      ∨ ¬(s.pairedUpper e = true ↔ e % 2 = 1 ∧ (s.entry (e - 1)).staging.pair = true)
  · obtain ⟨hc, hp, ha, -⟩ := hidle hbecomes
    exact ⟨hc, hp, ha⟩
  · obtain ⟨henable, hpairing⟩ := not_or.mp hbecomes
    have hpairing := not_not.mp hpairing
    have hunwatched : s.watched e = false := by
      rcases hoff with hm | hen | hpair
      · simp [State.watched, hm]
      · exact absurd hen henable
      · simp [State.watched, hpairing.mpr (by simpa using hpair)]
    obtain ⟨hc, hp, ha⟩ := hbefore hunwatched
    obtain ⟨-, -, -, -, hsame, -, hage, -, houtOfTurn, hkept, -⟩ := hstay hbecomes
    refine ⟨(hsame (by simp [hc])).trans hc, ?_, hage hc hunwatched⟩
    cases b with
    | true => exact houtOfTurn rfl
    | false => exact (hkept rfl (.inr (by omega))).trans hp

theorem State.switchedEntry_counts (s : State) (b : Bool) (e : Nat) (hrun : s.runOk e (s.entry e).run) :
    (s.switchedEntry b e (s.entry e)).run.age ≤ 65535 ∧ (s.switchedEntry b e (s.entry e)).run.splitCount ≤ 255
      ∧ (s.switchedEntry b e (s.entry e)).run.tally ≤ 255 := by
  obtain ⟨-, ⟨hsplit, htally, -⟩, hidle, hstay⟩ := s.switchedEntry_switchedTo b e (s.entry e)
  generalize s.switchedEntry b e (s.entry e) = y at hsplit htally hidle hstay
  obtain ⟨-, -, -, hage, hs, ht⟩ := hrun
  refine ⟨?_, hsplit ▸ hs, htally ▸ ht⟩
  by_cases hbecomes : (s.entry e).staging.enable = false
      ∨ ¬(s.pairedUpper e = true ↔ e % 2 = 1 ∧ (s.entry (e - 1)).staging.pair = true)
  · obtain ⟨-, -, ha, -⟩ := hidle hbecomes
    omega
  · obtain ⟨-, -, -, -, -, hwatched, hunwatched, hactive, -⟩ := hstay hbecomes
    by_cases hc : (s.entry e).run.condition = .idle
    · cases hw : s.watched e with
      | true => exact (hwatched hw).le.trans hage
      | false => exact (hunwatched hc hw).le.trans (Nat.zero_le _)
    · exact (hactive hc).le.trans hage

/-- The pairing of the upper entries after a switch of whole units: the new one where the unit switched (R36, R38). -/
theorem State.switchEntries_pairedUpper (s : State) (chosen : Nat → Entry → Bool) (b : Bool) (hlength : s.table.length = 96)
    (hwhole : ∀ e < 96, s.unitUpper e = true → chosen e (s.entry e) = chosen (e - 1) (s.entry (e - 1))) (e : Nat)
    (he : e < 96) :
    (s.switchEntries chosen b).pairedUpper e
      = if chosen e (s.entry e) then (e % 2 == 1 && (s.entry (e - 1)).staging.pair) else s.pairedUpper e := by
  have hlower := s.switchEntries_entry chosen b (e - 1) (by omega)
  by_cases hodd : e % 2 = 1
  · simp only [State.pairedUpper, hodd, beq_self_eq_true, Bool.true_and, hlower]
    cases hu : s.unitUpper e with
    | true =>
      rw [hwhole e he hu]
      split <;> rfl
    | false =>
      have hpairs := mt (s.unitUpper_iff e).mpr (by simp [hu])
      simp only [hodd, true_and, not_or, Bool.not_eq_true] at hpairs
      obtain ⟨hlive, hstaging⟩ := hpairs
      split <;> split <;> simp [State.switchedEntry_live, hlive, hstaging]
  · have hodd' : (e % 2 == 1) = false := by simpa using hodd
    simp [State.pairedUpper, hodd']

theorem State.unitUpper_of_switchEntries (s : State) (chosen : Nat → Entry → Bool) (b : Bool) (hlength : s.table.length = 96)
    (e : Nat) (he : e < 96) (h : (s.switchEntries chosen b).unitUpper e = true) : s.unitUpper e = true := by
  obtain ⟨hodd, hpair⟩ := (State.unitUpper_iff _ e).mp h
  refine (s.unitUpper_iff e).mpr ⟨hodd, ?_⟩
  rw [s.switchEntries_entry chosen b (e - 1) (by omega)] at hpair
  split at hpair
  · exact .inr (by simpa [State.switchedEntry_live, State.switchedEntry_staging] using hpair)
  · exact hpair

/-- A switch of whole units keeps the table's law (R102). -/
theorem State.tableLaw_switchEntries (s : State) (chosen : Nat → Entry → Bool) (b : Bool)
    (hok : s.Switchable (fun i => chosen i (s.entry i)) b) (h : s.tableLaw) : (s.switchEntries chosen b).tableLaw := by
  obtain ⟨hlength, hmap, hlaw⟩ := h
  obtain ⟨hwhole, hwithin⟩ := hok
  refine ⟨by simpa using hlength, hmap, fun e he => (State.entryLaw_iff _ e).mpr ?_⟩
  obtain ⟨hlive, hstaging, hrun, hwait⟩ := (s.entryLaw_iff e).mp (hlaw e he)
  have hentry : ∀ i < 96, (s.switchEntries chosen b).entry i
      = if chosen i (s.entry i) then s.switchedEntry b i (s.entry i) else s.entry i :=
    fun i hi => s.switchEntries_entry chosen b i (hlength ▸ hi)
  have hpaired := s.switchEntries_pairedUpper chosen b hlength hwhole e he
  have hunit : ((s.switchEntries chosen b).entry e).run.waiting
      = ((s.switchEntries chosen b).entry ((s.switchEntries chosen b).unitLower e)).run.waiting := by
    cases hu : (s.switchEntries chosen b).unitUpper e with
    | false => rw [State.unitLower_of_lower _ e hu]
    | true =>
      have hupper := s.unitUpper_of_switchEntries chosen b hlength e he hu
      rw [State.unitLower_of_upper _ e hu, hentry e he, hentry (e - 1) (by omega), ← hwhole e he hupper]
      rw [s.unitLower_of_upper e hupper] at hwait
      split
      · rw [s.switchedEntry_waiting, s.switchedEntry_waiting]
      · exact hwait
  rw [hentry e he] at hunit ⊢
  by_cases hc : chosen e (s.entry e) = true
  · rw [if_pos hc] at hpaired hunit ⊢
    have hperiod : 1 ≤ (s.entry e).staging.period := by
      obtain ⟨-, hp, -⟩ := hstaging
      exact hp
    refine ⟨hstaging, hstaging, ⟨?_, ?_, fun hn => s.switchedEntry_unwatched b e hrun hperiod ?_,
      s.switchedEntry_counts b e hrun⟩, hunit⟩
    · rw [hentry e he, if_pos hc]
      exact hwithin e he hc
    · obtain ⟨⟨-, -, -, -, hzero⟩, -⟩ := s.switchedEntry_switchedTo b e (s.entry e)
      rw [hzero]
      exact ConfigRecord.countOk_zero _ _ (s.switchedEntry_settled b e _)
    · have hmapped : (s.switchEntries chosen b).mapped e = s.mapped e := rfl
      simpa [State.watched, hmapped, hentry e he, if_pos hc, hpaired, State.switchedEntry_live, imp_iff_not_or, or_assoc] using hn
  · rw [if_neg hc] at hpaired hunit ⊢
    refine ⟨hlive, hstaging, s.runOk_congr _ e _ ?_ (fun hn => ?_) hrun, hunit⟩
    · rw [hentry e he, if_neg hc]
    · have hmapped : (s.switchEntries chosen b).mapped e = s.mapped e := rfl
      simpa [State.watched, hmapped, hpaired, hentry e he, hc] using hn

end Sys2Proof.Machine
end

section
/-! SUPPORT. The acceptance of a commit, the map changes and the hand-over, and with them the laws of the channel table and of the
trip groups over every step. -/

namespace Sys2Proof.Machine

open Sys2Proof Relation

/-! ## The acceptance (R99, R100) -/

/-- Where the tests of R100 let a unit switch at once, each of its entries is at a position within its new period. -/
theorem State.switchable_atOnce (s : State) (h : s.tableLaw) :
    s.Switchable (fun e => s.switchesAtOnce (s.unitLower e)) false := by
  obtain ⟨-, -, hlaw⟩ := h
  refine ⟨fun e _ hu => ?_, fun e he htest => ?_⟩
  · have hodd := ((s.unitUpper_iff e).mp hu).1
    rw [s.unitLower_of_upper e hu, s.unitLower_of_lower (e - 1) (s.unitUpper_of_even _ (by omega))]
  · cases hu : s.unitUpper e with
    | true => exact s.switchedEntry_upper_position false e (hlaw e he) hu
    | false =>
      obtain ⟨-, ⟨-, hperiod, -⟩, ⟨hpos, -, hidle, -⟩, -⟩ := (s.entryLaw_iff e).mp (hlaw e he)
      refine s.switchedEntry_position_lt false e _ hperiod (.inr ?_)
      rw [s.unitLower_of_lower e hu] at htest
      simp only [State.switchesAtOnce, Bool.or_eq_true, beq_iff_eq, Bool.not_eq_true', Bool.and_eq_true] at htest
      rcases htest with (((hsame | hunmapped) | ⟨hoff, -⟩) | hcondition) | hzero
      · exact .inl (hsame ▸ hpos)
      · exact .inr (hidle (by simp [State.watched, hunmapped])).1
      · exact .inr (hidle (by simp [State.watched, hoff])).1
      · exact .inr hcondition
      · exact .inl (by omega)

/-- The tests of an acceptance: what switches keeps the law, and the units that do not switch wait together. -/
theorem State.acceptUnits_tableLaw (s : State) (h : s.tableLaw) : s.acceptUnits.tableLaw := by
  have hok := s.switchable_atOnce h
  obtain ⟨hlength, -⟩ := id h
  generalize hu : s.switchEntries (fun e _ => s.switchesAtOnce (s.unitLower e)) false = u
  have hlaw : u.tableLaw := hu ▸ s.tableLaw_switchEntries (fun e _ => s.switchesAtOnce (s.unitLower e)) false hok h
  have hlen : u.table.length = 96 := by rw [← hu]; simpa using hlength
  have hswitched : ∀ i < 96, s.acceptUnits.entry i
      = if s.switchesAtOnce (s.unitLower i) then u.entry i
        else { u.entry i with run := { (u.entry i).run with waiting := true } } := fun i hi => by
    rw [s.acceptUnits_entry i (hlength ▸ hi), ← hu, s.switchEntries_entry _ false i (hlength ▸ hi)]
    split <;> rfl
  have hlength' : s.acceptUnits.table.length = 96 := by simpa [State.acceptUnits] using hlength
  have hslots : ∀ i, (s.acceptUnits.entry i).live = (u.entry i).live
      ∧ (s.acceptUnits.entry i).staging = (u.entry i).staging := fun i => by
    by_cases hi : i < 96
    · rw [hswitched i hi]
      split <;> exact ⟨rfl, rfl⟩
    · rw [State.entry_of_le _ i (by omega), State.entry_of_le u i (by omega)]
      exact ⟨rfl, rfl⟩
  have hmap : s.acceptUnits.map = u.map := by rw [← hu]; rfl
  have hwaits : ∀ i < 96, (s.acceptUnits.entry i).run.waiting = !s.switchesAtOnce (s.unitLower i) := fun i hi => by
    rw [s.acceptUnits_entry i (hlength ▸ hi)]
    split
    · rename_i hc
      simp [hc, s.switchedEntry_waiting]
    · rename_i hc
      simp [hc]
  refine u.tableLaw_of_slots _ hlaw ?_ hlength' hslots (fun i hi => ?_) fun i hi => ?_
  · obtain ⟨-, hm, -⟩ := hlaw
    unfold State.mapLaw
    rwa [hmap]
  · obtain ⟨-, -, hentries⟩ := hlaw
    obtain ⟨-, -, hrun, -⟩ := (u.entryLaw_iff i).mp (hentries i hi)
    refine u.runOk_congr _ i _ (hslots i).1
      (fun hn => by rwa [u.watched_congr _ i hmap fun j => (hslots j).1] at hn) ?_
    rw [hswitched i hi]
    split <;> exact hrun
  · have hle := u.unitLower_le i
    rw [hwaits i hi, hwaits _ (by omega)]
    cases hupper : u.unitUpper i with
    | false => rw [u.unitLower_of_lower i hupper]
    | true =>
      have hbefore : s.unitUpper i = true :=
        s.unitUpper_of_switchEntries _ false hlength i hi (by rw [hu]; exact hupper)
      rw [u.unitLower_of_upper i hupper]
      exact congrArg _ (hok.whole i hi hbefore)

theorem Work.tableLaw {s t : State} (h : Work s t) (hs : s.tableLaw) : t.tableLaw := by
  cases h with
  | raise ev => exact s.tableLaw_raise ev hs
  | run e f hkept hok => exact s.tableLaw_modifyRun e f hkept hok hs
  | switch chosen outOfTurn hok => exact s.tableLaw_switchEntries chosen outOfTurn (hok hs) hs
  | accept d =>
    exact State.tableLaw_congr _ (s.accepting d) rfl rfl (State.acceptUnits_tableLaw
      { s with commit := { s.commit with generation := s.commit.generation + 1, forcedCount := 0 } }
      (s.tableLaw_congr _ rfl rfl hs))
  | addKey k hrange hkey hentry =>
    obtain ⟨hlength, hmap, hlaw⟩ := hs
    refine ⟨hlength, s.mapLaw_insertKey k hrange hkey hentry hmap, fun i hi => (State.entryLaw_iff _ i).mpr ?_⟩
    obtain ⟨hlive, hstaging, hrun, hwait⟩ := (s.entryLaw_iff i).mp (hlaw i hi)
    refine ⟨hlive, hstaging, s.runOk_congr _ i _ rfl (fun hn => ?_) hrun, hwait⟩
    cases hm : s.mapped i with
    | false => simp [State.watched, hm]
    | true =>
      obtain ⟨x, hx, hxi⟩ := (s.mapped_iff i).mp hm
      have hm' : ({ s with map := insertKey k s.map } : State).mapped i = true :=
        (State.mapped_iff _ i).mpr ⟨x, (mem_insertKey_iff k x _).mpr (.inr hx), hxi⟩
      rw [State.watched, hm'] at hn
      rw [State.watched, hm]
      exact hn
  | _ => exact s.tableLaw_congr _ rfl rfl hs

theorem Works.tableLaw {s t : State} (h : Works s t) (hs : s.tableLaw) : t.tableLaw :=
  chain_keeps State.tableLaw (fun _ _ => Work.tableLaw) h hs

/-! ## Map changes (R41, R42, R108) -/

theorem State.mapChange_length (s : State) (e : Nat) : (s.mapChange e).table.length = s.table.length := by
  simp only [State.mapChange, State.handOver_table, State.modifyRun_length]
  split <;> simp [State.switchUnit]

/-- An entry after a map change to entry e: the unit of a waiting e switches out of turn, and e itself is reset (R108, R33). -/
theorem State.mapChange_entry (s : State) (e i : Nat) (hi : i < s.table.length) :
    (s.mapChange e).entry i
      = let x := if (s.entry e).run.waiting && (s.unit e).contains i then s.switchedEntry true i (s.entry i) else s.entry i
        if i = e then { x with run := x.run.cleared } else x := by
  have hentry : ∀ u : State, u.table.length = s.table.length →
      (u.modifyRun e RunState.cleared).handOver.entry i
        = if i = e then { u.entry i with run := (u.entry i).run.cleared } else u.entry i := fun u hu => by
    rw [State.entry_congr _ _ i (State.handOver_table _)]
    split
    · rename_i he
      subst he
      exact u.modifyRun_entry_self i _ (by omega)
    · rename_i he
      exact u.modifyRun_entry_other e i _ he
  unfold State.mapChange
  dsimp only
  split
  · rename_i hw
    rw [hentry _ (by simp [State.switchUnit]), State.entry_congr _ _ i (State.completeIfEmpty_table _),
      State.switchUnit, s.switchEntries_entry _ true i hi]
    simp [hw]
  · rename_i hw
    rw [hentry s rfl]
    simp [hw]

/-- The entries that a map change leaves do not depend on whether the entry it names is still mapped. -/
theorem State.mapChange_table_of_map (s : State) (e : Nat) (m : List MapKey)
    (hmapped : ∀ i, i ≠ e → ({ s with map := m } : State).mapped i = s.mapped i) :
    (({ s with map := m } : State).mapChange e).table = (s.mapChange e).table := by
  apply List.ext_getElem?
  intro i
  by_cases hi : i < s.table.length
  · rw [State.getElem?_table _ i (by rw [State.mapChange_length]; exact hi),
      State.getElem?_table _ i (by rw [State.mapChange_length]; exact hi), s.mapChange_entry e i hi,
      State.mapChange_entry { s with map := m } e i hi]
    refine congrArg some ?_
    dsimp only
    by_cases he : i = e
    · rw [if_pos he, if_pos he]
      split
      · rename_i hw
        rw [if_pos (show ((s.entry e).run.waiting && (s.unit e).contains i) = true from hw)]
        rfl
      · rename_i hw
        rw [if_neg (show ¬((s.entry e).run.waiting && (s.unit e).contains i) = true from hw)]
        rfl
    · rw [if_neg he, if_neg he]
      have hwatched : ({ s with map := m } : State).watched i = s.watched i := by
        rw [State.watched, State.watched, hmapped i he]
        rfl
      have hswitched : ({ s with map := m } : State).switchedEntry true i (s.entry i)
          = s.switchedEntry true i (s.entry i) := by
        unfold State.switchedEntry
        dsimp only
        rw [hwatched]
        rfl
      exact if_congr Iff.rfl hswitched rfl
  · rw [List.getElem?_eq_none (by rw [State.mapChange_length]; exact Nat.le_of_not_lt hi),
      List.getElem?_eq_none (by rw [State.mapChange_length]; exact Nat.le_of_not_lt hi)]

/-- A key removed with its entry reset: the entry, no longer watched, is IDLE at position 0 with age 0 (R33, R42). -/
theorem State.tableLaw_unmap (s : State) (node channel e : Nat) (hkey : s.lookup node channel = some e) (h : s.tableLaw) :
    (({ s with map := s.withoutKey node channel } : State).mapChange e).tableLaw := by
  obtain ⟨hlength, hmap, -⟩ := id h
  have hmapped := s.mapped_withoutKey node channel e hmap hkey
  have htable := s.mapChange_table_of_map e (s.withoutKey node channel) fun i hi => by simp [hmapped, hi]
  obtain ⟨t, hworks, heq⟩ := s.mapChange_works e
  have hlaw : (s.mapChange e).tableLaw := by
    rw [heq]
    exact State.tableLaw_congr _ _ rfl rfl (hworks.tableLaw h)
  have hmaps : ∀ u : State, (u.mapChange e).map = u.map := fun u => by
    simp only [State.mapChange, State.handOver_map, State.modifyRun_map]
    split
    · unfold State.completeIfEmpty
      split <;> simp [State.switchUnit]
    · rfl
  have hentries : ∀ i, (({ s with map := s.withoutKey node channel } : State).mapChange e).entry i = (s.mapChange e).entry i :=
    fun i => State.entry_congr _ _ i htable
  refine (s.mapChange e).tableLaw_of_slots _ hlaw ?_ ?_ (fun i => by rw [hentries]; exact ⟨rfl, rfl⟩) (fun i hi => ?_) fun i hi => ?_
  · unfold State.mapLaw
    rw [hmaps]
    exact s.mapLaw_withoutKey node channel hmap
  · rw [State.mapChange_length]
    exact hlength
  · obtain ⟨-, -, hall⟩ := hlaw
    obtain ⟨-, -, hrun, -⟩ := (State.entryLaw_iff _ i).mp (hall i hi)
    rw [hentries]
    by_cases he : i = e
    · obtain ⟨hpos, hcount, -, hrest⟩ := hrun
      refine ⟨by rw [hentries]; exact hpos, by rw [hentries]; exact hcount, fun _ => ?_, hrest⟩
      rw [s.mapChange_entry e i (hlength ▸ hi)]
      simp only [he, if_true]
      exact ⟨rfl, rfl, rfl⟩
    · refine (s.mapChange e).runOk_congr _ i _ (by rw [hentries]) (fun hn => ?_) hrun
      simp only [State.watched, State.pairedUpper, hentries] at hn ⊢
      have hm : (({ s with map := s.withoutKey node channel } : State).mapChange e).mapped i = (s.mapChange e).mapped i := by
        rw [State.mapped, hmaps, State.mapped, hmaps]
        exact (hmapped i).trans (by simp [he, State.mapped])
      rwa [hm] at hn
  · obtain ⟨-, -, hall⟩ := hlaw
    obtain ⟨-, -, -, hwait⟩ := (State.entryLaw_iff _ i).mp (hall i hi)
    rwa [hentries, hentries]

/-! ## The table's law over a step -/

/-- The run-state resets of a reset (R33, R44). -/
theorem State.clearRuns_entry (s : State) (e : Nat) (he : e < s.table.length) :
    s.clearRuns.entry e
      = { s.entry e with run := { (s.entry e).run.cleared with generation := s.commit.generation, waiting := false } } := by
  simp [State.clearRuns, State.entry_eq_getElem?, List.getElem?_eq_getElem he]

theorem State.tableLaw_clearRuns (s : State) (h : s.tableLaw) : s.clearRuns.tableLaw := by
  obtain ⟨hlength, hmap, hlaw⟩ := id h
  have hentry : ∀ i < 96, s.clearRuns.entry i
      = { s.entry i with run := { (s.entry i).run.cleared with generation := s.commit.generation, waiting := false } } :=
    fun i hi => s.clearRuns_entry i (hlength ▸ hi)
  have hlength' : s.clearRuns.table.length = 96 := by simpa [State.clearRuns] using hlength
  refine s.tableLaw_of_slots _ h hmap hlength' (fun i => ?_) (fun i hi => ?_) fun i hi => ?_
  · by_cases hi : i < 96
    · rw [hentry i hi]
      exact ⟨rfl, rfl⟩
    · rw [State.entry_of_le _ i (by omega), State.entry_of_le s i (by omega)]
      exact ⟨rfl, rfl⟩
  · obtain ⟨-, -, ⟨hpos, -⟩, -⟩ := (s.entryLaw_iff i).mp (hlaw i hi)
    rw [hentry i hi]
    refine ⟨?_, rfl, fun _ => ⟨rfl, rfl, rfl⟩, by simp [RunState.cleared, RunState.initial]⟩
    rw [hentry i hi]
    exact (Nat.zero_le _).trans_lt hpos
  · have hle := s.unitLower_le i
    rw [hentry i hi, hentry _ (by omega)]

/-- A record staged in IDLE, where no entry waits, forms no unit that waits in part (R30, R38). -/
theorem State.tableLaw_stage (s : State) (e : Nat) (r : ConfigRecord) (hidle : s.commit.pending = false)
    (hstored : r.stored e) (h : s.tableLaw) (hgeneration : s.generationLaw) :
    ({ s with table := s.table.modify e fun x => { x with staging := r } } : State).tableLaw := by
  obtain ⟨hlength, hmap, hlaw⟩ := h
  have hentry : ∀ i, ({ s with table := s.table.modify e fun x => { x with staging := r } } : State).entry i
      = if e = i ∧ i < 96 then { s.entry i with staging := r } else s.entry i := fun i => by
    by_cases hi : i < 96
    · simp only [State.entry_eq_getElem?, List.getElem?_modify, List.getElem?_eq_getElem (hlength ▸ hi : i < s.table.length)]
      split <;> simp_all
    · rw [State.entry_of_le _ i (by simp; omega), State.entry_of_le s i (by omega), if_neg (fun h => hi h.2)]
  have hlive : ∀ i, (({ s with table := s.table.modify e fun x => { x with staging := r } } : State).entry i).live
      = (s.entry i).live := fun i => by rw [hentry]; split <;> rfl
  have hrunEq : ∀ i, (({ s with table := s.table.modify e fun x => { x with staging := r } } : State).entry i).run
      = (s.entry i).run := fun i => by rw [hentry]; split <;> rfl
  refine ⟨by simpa using hlength, hmap, fun i hi => (State.entryLaw_iff _ i).mpr ?_⟩
  obtain ⟨hl, hs, hrun, -⟩ := (s.entryLaw_iff i).mp (hlaw i hi)
  refine ⟨hlive i ▸ hl, ?_, ?_, ?_⟩
  · rw [hentry]
    split
    · rename_i he
      exact he.1 ▸ hstored
    · exact hs
  · rw [hrunEq]
    exact s.runOk_congr _ i _ (hlive i) (fun hn => by rwa [s.watched_congr _ i (by rfl) hlive] at hn) hrun
  · have hle := State.unitLower_le { s with table := s.table.modify e fun x => { x with staging := r } } i
    rw [hrunEq, hrunEq, s.waiting_of_idle hgeneration hidle i (by omega), s.waiting_of_idle hgeneration hidle _ (by omega)]

theorem State.tableLaw_ageStep (s : State) (h : s.tableLaw) : s.ageStep.tableLaw := by
  obtain ⟨hlength, hmap, hlaw⟩ := id h
  have hentry : ∀ i < 96, s.ageStep.entry i
      = if s.watched i then { s.entry i with run := { (s.entry i).run with age := min 65535 ((s.entry i).run.age + 1) } }
        else s.entry i := fun i hi => s.ageEntries_entry i (hlength ▸ hi)
  have hlive : ∀ i, (s.ageStep.entry i).live = (s.entry i).live := s.ageEntries_live
  have hlength' : s.ageStep.table.length = 96 := s.ageEntries_length.trans hlength
  have hwaits : ∀ i < 96, (s.ageStep.entry i).run.waiting = (s.entry i).run.waiting := fun i hi => by
    rw [hentry i hi]
    split <;> rfl
  refine s.tableLaw_of_slots _ h hmap hlength' (fun i => ⟨hlive i, ?_⟩) (fun i hi => ?_) fun i hi => ?_
  · by_cases hi : i < 96
    · rw [hentry i hi]
      split <;> rfl
    · rw [State.entry_of_le _ i (by omega), State.entry_of_le s i (by omega)]
  · obtain ⟨-, -, hrun, -⟩ := (s.entryLaw_iff i).mp (hlaw i hi)
    refine s.runOk_congr _ i _ (hlive i) (fun hn => by rwa [s.watched_congr s.ageStep i rfl hlive] at hn) ?_
    rw [hentry i hi]
    split
    · rename_i hw
      obtain ⟨hpos, hcount, -, -, hrest⟩ := hrun
      exact ⟨hpos, hcount, fun hn => absurd hw (by simp [hn]), Nat.min_le_left _ _, hrest⟩
    · exact hrun
  · obtain ⟨-, -, -, hwait⟩ := (s.entryLaw_iff i).mp (hlaw i hi)
    have hle := s.unitLower_le i
    rw [hwaits i hi, hwaits _ (by omega), hwait]

theorem Core.tableLaw {s t : State} (h : Core s t) (hs : s.tableLaw) (hgeneration : s.generationLaw) : t.tableLaw := by
  cases h with
  | claim t hworks | stale t l hdue hleft hworks => exact t.tableLaw_congr _ rfl rfl (hworks.tableLaw hs)
  | unmap node channel e hkey => exact s.tableLaw_unmap node channel e hkey hs
  | wipe t hworks => exact t.clearRuns.tableLaw_congr _ rfl rfl (t.tableLaw_clearRuns (hworks.tableLaw hs))
  | forgetTally e =>
    refine s.tableLaw_modifyRun e _ (fun r => ⟨rfl, rfl⟩) (fun hlaw => ?_) hs
    obtain ⟨-, -, ⟨hpos, hcount, hidle, hage, hsplit, -⟩, -⟩ := (s.entryLaw_iff e).mp hlaw
    exact ⟨hpos, hcount, hidle, hage, hsplit, Nat.zero_le _⟩
  | stage e r hidle hstored => exact s.tableLaw_stage e r hidle hstored hs hgeneration
  | raise ev => exact s.tableLaw_raise ev hs
  | deadline => exact s.tableLaw_congr _ (by simp) (by simp) hs
  | _ => exact s.tableLaw_congr _ rfl rfl hs

/-- The laws of the channel table with the generation law they rest on. -/
def State.channelLaw (s : State) : Prop := s.tableLaw ∧ s.generationLaw

theorem Act.channelLaw {s t : State} (h : Act s t) (hs : s.channelLaw) : t.channelLaw := by
  obtain ⟨htable, hgeneration⟩ := hs
  refine ⟨?_, h.generationLaw hgeneration⟩
  rcases h.core_or_sameTable with hcore | hsame
  · exact hcore.tableLaw htable hgeneration
  · exact s.tableLaw_congr _ hsame.map hsame.table htable

/-- Settles O59: by the updates of a step, with the generation law beside it. -/
theorem stepKeepsTheTableLaw : Obligations.StepKeepsTheTableLaw := by
  intro s t htable hgeneration h
  obtain ⟨hlaw, -⟩ := step_keeps_of_act State.channelLaw (fun _ _ => Act.channelLaw)
    (fun u hu => ⟨u.tableLaw_ageStep hu.1, u.generationLaw_congr _ u.ageStep_flags rfl rfl rfl hu.2⟩)
    (fun _ => by
      obtain ⟨-, -, -, -, -, -, -, -, htable, hgeneration, -⟩ := resetMeetsEveryLaw
      exact ⟨htable, hgeneration⟩)
    (fun u _ _ _ _ _ _ hu => ⟨u.tableLaw_congr _ rfl rfl hu.1, hu.2⟩) s t ⟨htable, hgeneration⟩ h
  exact hlaw

end Sys2Proof.Machine
end

section
/-! SUPPORT. The law of the trip groups (R135, R136), kept by every update and so by every step. -/

namespace Sys2Proof.Machine

open Sys2Proof Relation

theorem State.tripLaw_congr (s t : State) (hgroups : t.groups = s.groups) (hsettings : t.agent.settings = s.agent.settings)
    (hdue : t.staleDue = [] → s.staleDue = []) (hset : ∀ g < 4, t.trippingSet g = s.trippingSet g) (h : s.tripLaw) :
    t.tripLaw := by
  obtain ⟨hfour, hwf, htrips⟩ := h
  have hgroup : ∀ g, t.group g = s.group g := fun g => by rw [State.group, State.group, hgroups]
  refine ⟨hgroups ▸ hfour, fun g hg => ?_, fun hnil g hg => ?_⟩
  · rw [hgroup, hsettings]
    exact hwf g hg
  · rw [hgroup, hset g hg]
    exact htrips (hdue hnil) g hg

/-- The tripping members rest on the map, the live slots and the conditions (R67). -/
theorem State.trippingSet_congr (s t : State) (g : Nat) (hmap : t.map = s.map)
    (hlive : ∀ i, (t.entry i).live = (s.entry i).live)
    (hcondition : ∀ i, (t.entry i).run.condition = (s.entry i).run.condition) : t.trippingSet g = s.trippingSet g := by
  have hwatched : ∀ i, t.watched i = s.watched i := fun i => s.watched_congr t i hmap hlive
  have htrips : t.trips g = s.trips g := by
    funext i
    simp only [State.trips, State.memberOf, hwatched, hlive, hcondition]
  rw [State.trippingSet, State.trippingSet, htrips]

theorem State.trippingSet_of_table (s t : State) (g : Nat) (hmap : t.map = s.map) (htable : t.table = s.table) :
    t.trippingSet g = s.trippingSet g :=
  s.trippingSet_congr t g hmap (fun i => by rw [s.entry_congr t i htable]) fun i => by rw [s.entry_congr t i htable]

theorem Work.groups {s t : State} (h : Work s t) : t.groups = s.groups := by
  cases h with
  | raise ev => simp
  | _ => rfl

theorem Works.groups {s t : State} (h : Works s t) : t.groups = s.groups :=
  chain_keeps (fun t => t.groups = s.groups) (fun _ _ hwork hs => hwork.groups.trans hs) h rfl

/-- A group that is handed a table keeps its law (Table 57). -/
theorem State.handGroup_wf (s : State) (g : Nat) (x : TripGroup) (h : x.wf (s.agent.settings.latch g)) :
    (s.handGroup g x).wf (s.agent.settings.latch g) := by
  unfold State.handGroup
  dsimp only
  split
  · exact h
  · obtain ⟨-, hfollow⟩ := h
    generalize s.trippingSet g = set
    cases set with
    | cons e rest => simp [TripGroup.wf, GroupState.judge]
    | nil => cases hl : s.agent.settings.latch g <;> cases x.state <;> simp [TripGroup.wf, GroupState.judge]

/-- A claim ends with the groups' law: their sets as the table stands, their states by Table 57 (R68). -/
theorem State.tripLaw_handOver (s t : State) (hgroups : t.groups = s.groups)
    (hsettings : t.agent.settings = s.agent.settings) (h : s.tripLaw) : t.handOver.tripLaw := by
  obtain ⟨hfour, hwf, -⟩ := h
  have hlength : t.groups.length = 4 := hgroups ▸ hfour
  have hgroup : ∀ g, t.group g = s.group g := fun g => by rw [State.group, State.group, hgroups]
  refine ⟨t.handOver_length.trans hlength, fun g hg => ?_, fun _ g hg => ?_⟩
  · rw [t.handOver_group g (hlength ▸ hg)]
    exact t.handGroup_wf g _ (by rw [hgroup, hsettings]; exact hwf g hg)
  · rw [t.handOver_group g (hlength ▸ hg), t.handGroup_set]
    rfl

theorem State.modifyRun_condition (s : State) (e i : Nat) (f : RunState → RunState)
    (hf : ∀ r, (f r).condition = r.condition) : ((s.modifyRun e f).entry i).run.condition = (s.entry i).run.condition := by
  by_cases h : i = e
  · subst h
    by_cases hl : i < s.table.length
    · rw [s.modifyRun_entry_self i f hl]
      exact hf _
    · rw [State.entry_of_le _ _ (by simpa using hl), State.entry_of_le s i (by omega)]
  · rw [s.modifyRun_entry_other e i f h]

/-- No entry of a cleared table trips a group (R143). -/
theorem State.trippingSet_clearRuns (s : State) (g : Nat) : s.clearRuns.trippingSet g = [] := by
  have hidle : ∀ e, (s.clearRuns.entry e).run.condition = .idle := fun e => by
    by_cases he : e < s.table.length
    · rw [s.clearRuns_entry e he]
      rfl
    · rw [State.entry_of_le _ e (by simpa [State.clearRuns] using he)]
      rfl
  rw [State.trippingSet, List.filter_eq_nil_iff]
  intro e _
  simp [State.trips, hidle, ConfigRecord.tripsOn]

theorem State.tripLaw_cleared (s t : State) (hgroups : t.groups = s.groups) (h : s.tripLaw) :
    t.clearRuns.clearGroups.tripLaw := by
  obtain ⟨hfour, -⟩ := h
  have hcleared : ∀ g, t.clearRuns.clearGroups.group g = TripGroup.cleared := fun g => by
    simp only [State.group, State.clearGroups, List.getD_eq_getElem?_getD, List.getElem?_map]
    cases t.clearRuns.groups[g]? <;> rfl
  refine ⟨?_, fun g _ => ?_, fun _ g _ => ?_⟩
  · simpa [State.clearGroups, hgroups] using hfour
  · rw [hcleared]
    simp [TripGroup.wf, TripGroup.cleared]
  · rw [hcleared]
    exact (t.trippingSet_clearRuns g).symm

theorem Core.tripLaw {s t : State} (h : Core s t) (hs : s.tripLaw) : t.tripLaw := by
  have hsettings : t.agent.settings = s.agent.settings := by rw [h.sameSides.agent]
  cases h with
  | claim t hworks => exact s.tripLaw_handOver t hworks.groups hsettings hs
  | stale t l hdue hleft hworks =>
    obtain ⟨hfour, hwf, -⟩ := hs
    have hgroups := hworks.groups
    refine ⟨by rwa [← hgroups] at hfour, fun g hg => ?_, fun hnil => absurd hnil hleft⟩
    have hgroup : State.group { t with staleDue := l } g = s.group g := by
      rw [State.group, State.group, ← hgroups]
    rw [hgroup, hsettings]
    exact hwf g hg
  | unmap node channel e =>
    obtain ⟨t, hworks, heq⟩ := State.mapChange_works
      { s with map := s.map.filter fun k => !(k.node == node && k.channel == channel) } e
    rw [heq] at hsettings ⊢
    exact s.tripLaw_handOver t hworks.groups hsettings hs
  | wipe t hworks => exact s.tripLaw_cleared t hworks.groups hs
  | forgetTally e =>
    exact s.tripLaw_congr _ rfl rfl id (fun g _ => s.trippingSet_congr _ g rfl (fun i => (s.modifyRun_slots e i _).1)
      fun i => s.modifyRun_condition e i _ fun _ => rfl) hs
  | stage e r =>
    have hentry : ∀ i, (({ s with table := s.table.modify e fun x => { x with staging := r } } : State).entry i).live
        = (s.entry i).live
          ∧ (({ s with table := s.table.modify e fun x => { x with staging := r } } : State).entry i).run.condition
            = (s.entry i).run.condition := fun i => by
      simp only [State.entry_eq_getElem?, List.getElem?_modify]
      cases s.table[i]? with
      | none => exact ⟨rfl, rfl⟩
      | some x => by_cases h : e = i <;> simp [h]
    exact s.tripLaw_congr _ rfl rfl id
      (fun g _ => s.trippingSet_congr _ g rfl (fun i => (hentry i).1) fun i => (hentry i).2) hs
  | deadline =>
    exact s.tripLaw_congr _ (by simp) hsettings (by simp) (fun g _ => s.trippingSet_of_table _ g (by simp) (by simp)) hs
  | raise ev hsubject hstage =>
    have htally : s.tally ev = s := by
      unfold State.tally
      split
      · rename_i e he
        exact absurd he (hstage e)
      all_goals rfl
    refine s.tripLaw_congr _ (by simp) hsettings (by simp) (fun g _ => s.trippingSet_of_table _ g (by simp) ?_) hs
    rw [State.raise_table, htally]
  | groups l hlaw => exact hlaw hs
  | _ => exact s.tripLaw_congr _ rfl rfl id (fun _ _ => rfl) hs

/-- A LATCHED group made FOLLOW becomes CLEAR, so that no FOLLOW group is LATCHED (R139). -/
theorem State.tripLaw_storeSettings (s : State) (x : Settings) (h : s.tripLaw) : (s.storeSettings x).tripLaw := by
  obtain ⟨hfour, hwf, hset⟩ := h
  have hgroup : ∀ g < 4, (s.storeSettings x).group g = (s.group g).underMode (x.latch g) := fun g hg => by
    have hg : g < s.groups.length := hfour ▸ hg
    simp [State.storeSettings, State.group, List.getD_eq_getElem?_getD, List.getElem?_zipIdx, List.getElem?_eq_getElem hg]
  refine ⟨by simpa [State.storeSettings] using hfour, fun g hg => ?_, fun hnil g hg => ?_⟩
  · obtain ⟨hasserted, -⟩ := hwf g hg
    rw [hgroup g hg]
    show TripGroup.wf ((s.group g).underMode (x.latch g)) (x.latch g)
    unfold TripGroup.underMode
    split
    · rename_i hl
      exact ⟨by simpa [hl.2] using hasserted, by simp⟩
    · rename_i hl
      exact ⟨hasserted, fun hfollow hlatched => hl ⟨by simpa using hfollow, hlatched⟩⟩
  · rw [hgroup g hg, s.trippingSet_of_table _ g (by simp) (by simp), ← hset hnil g hg]
    unfold TripGroup.underMode
    split <;> rfl

theorem Act.tripLaw {s t : State} (h : Act s t) (hs : s.tripLaw) : t.tripLaw := by
  cases h with
  | core hcore => exact hcore.tripLaw hs
  | settings x => exact s.tripLaw_storeSettings x hs
  | join f | rx p r | tx p x =>
    exact s.tripLaw_congr _ (by simp) (by simp) (by simp) (fun g _ => s.trippingSet_of_table _ g (by simp) (by simp)) hs
  | _ => exact s.tripLaw_congr _ rfl rfl id (fun _ _ => rfl) hs

/-- Aging touches no condition. -/
theorem State.ageStep_condition (s : State) (e : Nat) : (s.ageStep.entry e).run.condition = (s.entry e).run.condition := by
  show (s.ageEntries.entry e).run.condition = _
  by_cases he : e < s.table.length
  · rw [s.ageEntries_entry e he]
    split <;> rfl
  · rw [State.entry_of_le _ e (by simpa using he), State.entry_of_le s e (by omega)]

theorem Move.tripLaw {s t : State} (h : Move s t) (hs : s.tripLaw) : t.tripLaw := by
  cases h with
  | act _ hact => exact hact.tripLaw hs
  | age hdone =>
    exact s.tripLaw_congr _ rfl rfl (fun _ => hdone)
      (fun g _ => s.trippingSet_congr _ g rfl s.ageEntries_live s.ageStep_condition) hs
  | holdEnd =>
    obtain ⟨-, -, -, -, -, -, -, -, -, -, htrip⟩ := resetMeetsEveryLaw
    exact htrip
  | _ => exact s.tripLaw_congr _ rfl rfl id (fun _ _ => rfl) hs

/-- Settles O60: by the updates of a step; the aging of a tick starts from a state whose last tick claim is done. -/
theorem stepKeepsTheTripLaw : Obligations.StepKeepsTheTripLaw :=
  step_keeps State.tripLaw (fun _ _ => Move.tripLaw)
    fun s _ hs => s.tripLaw_congr _ rfl rfl id (fun _ _ => rfl) hs

end Sys2Proof.Machine
end

section
/-! SUPPORT. The commands of the queue, of the power supply, of the pin RSTn and of the lines, each with the state it leaves. -/

namespace Sys2Proof.Machine

open Sys2Proof Relation

/-! ## The queue, reset and power -/

/-- Settles O1. -/
theorem stepTakesTheFrontCommand : Obligations.StepTakesTheFrontCommand := by
  intro s i rest h
  rw [step, h]

/-- Settles O5: each value is read off the state at reset. -/
theorem resetHoldsThePowerOnValues : Obligations.ResetHoldsThePowerOnValues := by
  refine ⟨fun p => ?_, by decide +kernel, rfl, rfl, rfl, rfl, by decide +kernel, rfl, by decide +kernel, rfl, rfl, rfl, rfl, rfl,
    rfl, rfl, rfl, rfl, rfl⟩
  cases p <;> exact ⟨rfl, rfl, rfl, rfl⟩

/-- A command taken whole, after the work of the last tick, whose effect is known. -/
theorem takeClaim_eq (f : State → State) (s u : State) (h : s.tickDone = true) (hf : f s = u) :
    takeClaim f s = .next u.withdrawPromotion := by
  rw [takeClaim_of_tickDone f s h, hf]

theorem takeNow_of_zero (f : State → State) (s : State) (h : (f s).promotion = 0) : takeNow f s = .next (f s) := by
  rw [takeNow, State.withdrawPromotion_of_zero _ h]

theorem State.powerStable_of_high (s : State) (n : Nat) (h : s.power = .hold n) (hrstn : s.rstn = true) :
    s.powerStable = s.holdEnd := by
  simp [State.powerStable, h, hrstn]

/-- Settles O7. -/
theorem powerOnHoldsThenReleases : Obligations.PowerOnHoldsThenReleases := by
  refine ⟨fun s => takeNow_of_zero State.powerApplied s rfl, fun s n h hrstn => ?_, fun s n h hrstn => ?_, fun s h => ?_⟩
  · have hend := s.powerStable_of_high n h hrstn
    exact (takeNow_of_zero State.powerStable s (by rw [hend]; rfl)).trans (congrArg _ hend)
  · show takeNow State.powerStable s = _
    rw [takeNow, State.powerStable, h, hrstn]
    rfl
  · show takeNow State.powerStable s = _
    rw [takeNow, State.powerStable, h]

/-- The state that a pin reset leaves, block by block (R16). -/
theorem State.pinResetStart_report (s : State) :
    s.pinResetStart.report
      = ⟨[⟨.restart, .restarted, .restarted, true, 1, s.forceForReset.commit.generation, none, some 1⟩], [], 0⟩ := by
  unfold State.pinResetStart
  rw [State.restart_eq]
  dsimp only
  rw [show placeEvent _ _ (State.report _).queue = _ from placeEvent_nil _ _]
  rfl

theorem State.rstnLow_of_running (s : State) (h : s.running = true) : s.rstnLow = s.pinResetStart := by
  obtain ⟨hpower, hrstn⟩ := (s.running_iff).mp h
  simp [State.rstnLow, hpower, hrstn]

theorem State.forceForReset_sameSides (s : State) : s.SameSides s.forceForReset := s.forceForReset_works.sameSides

theorem State.forceForReset_groups (s : State) : s.forceForReset.groups = s.groups := s.forceForReset_works.groups

theorem State.forceForReset_map (s : State) : s.forceForReset.map = s.map := by
  unfold State.forceForReset
  split <;> rfl

theorem State.forceForReset_pendingQueue (s : State) : s.forceForReset.pending = s.pending := by
  obtain ⟨-, -, hpending, -⟩ := s.forceForReset_works.undisturbed
  exact hpending

theorem exec_pinReset (s : State) (lowNs : Nat) (h : s.tickDone = true) (hlong : 100 ≤ lowNs) :
    exec (.pinReset lowNs) s = .next s.rstnLow.withdrawPromotion :=
  takeClaim_eq (fun t => if Config.rstnMinNs ≤ lowNs then t.rstnLow else t) s _ h (if_pos hlong)

/-- The fields of a pin reset: each is what one of its steps leaves (R16). -/
theorem State.pinResetStart_eq_fields (s : State) (hlaw : s.generationLaw) :
    s.pinResetStart =
      { power := s.power
        rstn := false
        hPort := ⟨RxSide.inDown, TxSide.cut, s.hPort.line⟩
        fPort := ⟨RxSide.inDown, TxSide.cut, s.fPort.line⟩
        inbound := []
        map := s.map
        table := s.table.map fun x =>
          ⟨if x.run.waiting then x.staging else x.live, x.staging,
            { RunState.initial with generation := s.commit.generation }⟩
        staleDue := s.staleDue
        elapsed := s.elapsed
        commit := s.forceForReset.commit
        report := ⟨[⟨.restart, .restarted, .restarted, true, 1, s.commit.generation, none, some 1⟩], [], 0⟩
        groups := s.groups.map fun _ => ⟨[], .clear⟩
        promotion := 0
        agent := ⟨none, [], [], [], Counters.zero, s.agent.settings, .pin⟩
        pending := s.pending } := by
  obtain ⟨hgeneration, -, -⟩ := s.forceForReset_commit hlaw
  have hsame := s.forceForReset_sameSides
  have htable := s.forceForReset_clearRuns_table hlaw
  have hdue : s.forceForReset.staleDue = s.staleDue := by unfold State.forceForReset; split <;> rfl
  have helapsed : s.forceForReset.elapsed = s.elapsed := by unfold State.forceForReset; split <;> rfl
  rw [← hgeneration, ← s.pinResetStart_report, hgeneration, ← htable, ← hdue, ← helapsed, ← hsame.power, ← hsame.hPort,
    ← hsame.fPort, ← s.forceForReset_map, ← s.forceForReset_groups, ← s.forceForReset_pendingQueue, ← hsame.agent]
  unfold State.pinResetStart
  rw [State.restart_eq]
  generalize s.forceForReset = f
  rfl

end Sys2Proof.Machine
end

section
/-! SUPPORT. PIN_RESET and its release, and the head-loss reset. -/

namespace Sys2Proof.Machine

open Sys2Proof Relation

/-- The trip lines of a device held by RSTn (R141). -/
theorem State.tripLine_of_held (s : State) (g : Nat) (h : s.rstn = false) :
    s.tripLine g = if s.agent.settings.assertedHigh g then .low else .high := by
  have hstop : s.running = false := by simp [State.running, h]
  unfold State.tripLine
  cases s.agent.settings.assertedHigh g <;> simp [hstop]

theorem exec_pinResetRelease (s u : State) (h : s.tickDone = true) (hu : s.rstnHigh = u) :
    exec .pinResetRelease s = .next u.withdrawPromotion :=
  takeClaim_eq State.rstnHigh s u h hu

theorem State.holdEnd_withdrawPromotion (s : State) : s.holdEnd.withdrawPromotion = s.holdEnd :=
  State.withdrawPromotion_of_zero _ rfl

/-- Settles O8. -/
theorem pinResetAndItsRelease : Obligations.PinResetAndItsRelease := by
  refine ⟨fun s lowNs h hlaw hrun hlong => ?_, fun s lowNs h hshort => ?_, fun s h hpower hrstn => ?_,
    fun s n h hpower hrstn hn => ?_, fun s n lowNs h hpower hrstn hlong => ?_, fun s n h hpower hrstn hn => ?_⟩
  · obtain ⟨hpower, -⟩ := s.running_iff.mp hrun
    obtain ⟨hgeneration, hpending, hdeadline⟩ := s.forceForReset_commit hlaw
    have hstart := s.pinResetStart_eq_fields hlaw
    refine ⟨s.pinResetStart, ?_, ?_⟩
    · rw [exec_pinReset s lowNs h hlong, s.rstnLow_of_running hrun,
        State.withdrawPromotion_of_zero _ (by rw [hstart])]
    · have hline := fun g => s.pinResetStart.tripLine_of_held g (by rw [hstart])
      rw [hstart] at hline ⊢
      exact ⟨hpower, rfl, rfl, rfl, rfl, rfl, rfl, rfl, rfl, hgeneration, hpending, hdeadline, rfl, rfl, rfl,
        fun g _ => hline g⟩
  · exact takeClaim_eq (fun t => if Config.rstnMinNs ≤ lowNs then t.rstnLow else t) s s h
      (if_neg (by simpa [Config.rstnMinNs] using hshort))
  · exact exec_pinResetRelease s _ h (by simp [State.rstnHigh, hrstn, hpower, State.startPorts, TxSide.fresh])
  · have hend : s.rstnHigh = s.holdEnd := by simp [State.rstnHigh, hrstn, hpower, Config.holdClocks, hn]
    rw [exec_pinResetRelease s _ h hend, s.holdEnd_withdrawPromotion]
    rfl
  · rw [exec_pinReset s lowNs h hlong]
    simp [State.rstnLow, hrstn, hpower]
  · refine exec_pinResetRelease s _ h ?_
    have hn : ¬Config.holdClocks ≤ n := by simpa [Config.holdClocks] using hn
    simp [State.rstnHigh, hrstn, hpower, hn]

/-! ## The head-loss reset (R7, R134) -/

theorem State.lineLost_h (s : State) (h : s.hPort.rx.state = .interrupted) :
    s.lineLost .h = (s.setRx .h RxSide.inDown).headLossReset := by
  unfold State.lineLost
  rw [if_pos (show (s.port .h).rx.state = .interrupted from h)]

/-- The fields of a head-loss reset. -/
theorem State.headLossReset_eq (s : State) :
    s.headLossReset =
      { s with
        hPort := { s.hPort with rx := s.hPort.rx.abandoned }
        fPort := { s.fPort with rx := s.fPort.rx.abandoned }
        inbound := []
        promotion := 0
        agent := { s.agent with address := none, responses := [], recent := [], outbound := [], lastCause := .headLoss }
        report := ⟨placeEvent s.commit.generation
            ⟨.restart, .restarted, .urgent, s.commit.generation, none, some 3⟩
            (s.report.unacked.foldl (fun q f => addLoss s.commit.generation f.records.length q) s.report.queue), [], 0⟩ } := by
  unfold State.headLossReset
  rw [State.restart_eq, State.loseFrames_eq]
  rfl

/-- Settles O11. -/
theorem headLineDownIsAHeadLossReset : Obligations.HeadLineDownIsAHeadLossReset := by
  intro s h hstate
  refine ⟨(s.setRx .h RxSide.inDown).headLossReset, ?_, ?_⟩
  · rw [← State.withdrawPromotion_of_zero (s.setRx .h RxSide.inDown).headLossReset (by rw [State.headLossReset_eq])]
    exact takeClaim_eq (fun t => t.lineLost .h) s _ h (s.lineLost_h hstate)
  · rw [State.headLossReset_eq]
    exact ⟨rfl, rfl, rfl, rfl, rfl, rfl, rfl, rfl, rfl, rfl, rfl, rfl, rfl, rfl, rfl⟩

end Sys2Proof.Machine
end

section
/-! SUPPORT. The commands of the two lines, and the byte times of their receive sides that lead to them. -/

namespace Sys2Proof.Machine

open Sys2Proof Relation

/-! ## Line states (section 1.2) -/

/-- FIELD-DOWN and FIELD-UP touch the report queue alone (R6, R116). -/
theorem State.raiseFieldLine_eq (s : State) (kind : EventKind) :
    s.raiseFieldLine kind = { s with report := { s.report with queue := s.fieldLineQueue kind } } := by
  unfold State.raiseFieldLine State.raise State.fieldLineQueue State.tally
  dsimp only
  split <;> rfl

theorem State.firstSymbol_eq (s : State) (p : Port) (y : Symbol) (hrun : s.running = true) (h : (s.port p).rx.state = .down) :
    s.firstSymbol p y = s.setRx p ⟨.acquiring, if y = .idle then 1 else 0, 0, 0, .between⟩ := by
  simp [State.firstSymbol, hrun, h, RxSide.inDown]

theorem State.resumed_eq (s : State) (p : Port) (h : (s.port p).rx.state = .interrupted) :
    s.resumed p = s.setRx p ⟨.up, (s.port p).rx.idleCount, 0, 0, .between⟩ := by
  simp [State.resumed, h]

theorem State.acquired_eq (s : State) (p : Port) (h : (s.port p).rx.state = .acquiring) :
    s.acquired p = match p with
      | .h => s.setRx .h ⟨.up, 32, 0, 0, .between⟩
      | .f => { s.setRx .f ⟨.up, 32, 0, 0, .between⟩ with
          report := { s.report with queue := s.fieldLineQueue .fieldUp } } := by
  unfold State.acquired
  rw [if_pos h]
  cases p
  · rfl
  · exact State.raiseFieldLine_eq _ _

theorem State.acquisitionLost_eq (s : State) (p : Port) (h : (s.port p).rx.state = .acquiring) :
    s.acquisitionLost p = match p with
      | .h => s.setRx .h ⟨.down, 0, 0, 0, .between⟩
      | .f => { s.setRx .f ⟨.down, 0, 0, 0, .between⟩ with
          report := { s.report with queue := s.fieldLineQueue .fieldDown } } := by
  unfold State.acquisitionLost
  rw [if_pos h]
  cases p
  · rfl
  · exact State.raiseFieldLine_eq _ _

/-- The count of symbols and the timers of a receive side have no bearing on what its acquisition ends in. -/
theorem State.setRx_acquisitionLost (s : State) (p : Port) (r : RxSide) (h : (s.port p).rx.state = .acquiring)
    (hr : r.state = .acquiring) : (s.setRx p r).acquisitionLost p = s.acquisitionLost p := by
  unfold State.acquisitionLost
  rw [State.port_setRx, if_pos h, if_pos hr, State.setRx_setRx]

theorem State.acquiringSymbol_of_short (s : State) (p : Port) (y : Symbol) (n : Nat)
    (hn : (if y = .idle then (s.port p).rx.idleCount + 1 else 0) = n) (hshort : n ≠ 32) :
    s.acquiringSymbol p y = s.setRx p { (s.port p).rx with idleCount := n, silence := 0 } := by
  unfold State.acquiringSymbol
  dsimp only
  rw [hn]
  exact if_neg hshort

theorem State.acquiringSymbol_of_full (s : State) (p : Port) (h : (s.port p).rx.state = .acquiring)
    (hfull : (s.port p).rx.idleCount + 1 = 32) : s.acquiringSymbol p .idle = s.acquired p := by
  unfold State.acquiringSymbol
  dsimp only
  rw [if_pos rfl, if_pos (show _ = Config.idleRunLength from hfull)]
  exact s.setRx_acquired p _ h h

/-- A receive side that is not in UP has no frame to abandon. -/
theorem State.abandonFrame_of_not_up (s : State) (p : Port) (cause : AbandonCause) (h : (s.port p).rx.state ≠ .up) :
    s.abandonFrame p cause = s := by
  simp [State.abandonFrame, h]

theorem State.abandonFrame_of_closed (s : State) (p : Port) (cause : AbandonCause) (h : (s.port p).rx.receiving = false) :
    s.abandonFrame p cause = s := by
  simp [State.abandonFrame, h]

/-- A byte time without a recognised symbol, a violation counting as one where it abandons no frame (R3, R4, R5). -/
theorem State.receive_noSymbol (s : State) (p : Port) (x : LineItem) (hx : x = .violation ∨ x = .silence)
    (h : (s.port p).rx.state ≠ .up ∨ (s.port p).rx.receiving = false) : s.receive p x = s.noSymbol p := by
  rcases hx with rfl | rfl
  · show (s.abandonFrame p .violation).noSymbol p = _
    rcases h with h | h
    · rw [s.abandonFrame_of_not_up p _ h]
    · rw [s.abandonFrame_of_closed p _ h]
  · rfl

theorem State.noSymbol_acquiring (s : State) (p : Port) (h : (s.port p).rx.state = .acquiring) :
    s.noSymbol p = if 64 ≤ (s.port p).rx.silence + 8 then s.acquisitionLost p
      else s.setRx p { (s.port p).rx with idleCount := 0, silence := (s.port p).rx.silence + 8 } := by
  unfold State.noSymbol
  dsimp only
  split <;> rename_i hstate <;> simp only [h, reduceCtorEq] at hstate
  exact if_congr Iff.rfl (s.setRx_acquisitionLost p _ h h) rfl

theorem State.noSymbol_down (s : State) (p : Port) (h : (s.port p).rx.state = .down) : s.noSymbol p = s := by
  unfold State.noSymbol
  simp only [h]

theorem State.receive_of_acquiring (s : State) (p : Port) (y : Symbol) (h : (s.port p).rx.state = .acquiring) :
    s.receive p (.symbol y) = s.acquiringSymbol p y := by
  simp only [State.receive, h]

/-- Settles O9: each command as its equation above, and the byte times that lead to it. -/
theorem lineAcquisitionCommands : Obligations.LineAcquisitionCommands := by
  refine ⟨fun s p y h hrun hdown => ?_, fun s p y h hinterrupted => ?_, fun s h hacquiring => ⟨?_, ?_⟩,
    fun s h hacquiring => ⟨?_, ?_⟩, fun s p h hacquiring => ⟨fun y hy => ?_, fun hshort => ?_, fun hfull => ?_,
      fun x hx => ⟨fun hshort => ?_, fun hlong => ?_⟩⟩, fun s p y h => ⟨fun hdown => ⟨?_, ?_, ?_⟩, fun hinterrupted => ?_⟩⟩
  · exact takeClaim_eq (fun t => t.firstSymbol p y) s _ h (s.firstSymbol_eq p y hrun hdown)
  · exact takeClaim_eq (fun t => t.resumed p) s _ h (s.resumed_eq p hinterrupted)
  · exact takeClaim_eq (fun t => t.acquired .h) s _ h (s.acquired_eq .h hacquiring)
  · exact takeClaim_eq (fun t => t.acquisitionLost .h) s _ h (s.acquisitionLost_eq .h hacquiring)
  · exact takeClaim_eq (fun t => t.acquired .f) s _ h (s.acquired_eq .f hacquiring)
  · exact takeClaim_eq (fun t => t.acquisitionLost .f) s _ h (s.acquisitionLost_eq .f hacquiring)
  · rw [s.receive_of_acquiring p y hacquiring]
    exact s.acquiringSymbol_of_short p y 0 (if_neg hy) (by decide)
  · rw [s.receive_of_acquiring p _ hacquiring]
    exact s.acquiringSymbol_of_short p .idle _ (if_pos rfl) hshort
  · refine takeClaim_eq (fun t => t.acquired p) s _ h ?_
    rw [s.receive_of_acquiring p _ hacquiring, s.acquiringSymbol_of_full p hacquiring hfull]
  · rw [s.receive_noSymbol p x hx (.inl (by simp [hacquiring])), s.noSymbol_acquiring p hacquiring]
    exact if_neg (by omega)
  · refine takeClaim_eq (fun t => t.acquisitionLost p) s _ h ?_
    rw [s.receive_noSymbol p x hx (.inl (by simp [hacquiring])), s.noSymbol_acquiring p hacquiring, if_pos hlong]
  · refine takeClaim_eq (fun t => t.firstSymbol p y) s _ h ?_
    simp only [State.receive, hdown]
  · rw [s.receive_noSymbol p _ (.inl rfl) (.inl (by simp [hdown])), s.noSymbol_down p hdown]
  · rw [s.receive_noSymbol p _ (.inr rfl) (.inl (by simp [hdown])), s.noSymbol_down p hdown]
  · refine takeClaim_eq (fun t => t.resumed p) s _ h ?_
    simp only [State.receive, hinterrupted]

theorem State.interrupted_eq (s : State) (p : Port) (h : (s.port p).rx.state = .up) :
    s.interrupted p = (if (s.port p).rx.receiving then s.countDiscard p else s).setRx p
      ⟨.interrupted, (s.port p).rx.idleCount, 0, 0, .between⟩ := by
  simp [State.interrupted, h]

theorem State.lineLost_f (s : State) (h : s.fPort.rx.state = .interrupted) :
    s.lineLost .f = { s.setRx .f ⟨.down, 0, 0, 0, .between⟩ with
      report := { s.report with queue := s.fieldLineQueue .fieldDown } } := by
  unfold State.lineLost
  rw [if_pos (show (s.port .f).rx.state = .interrupted from h)]
  exact State.raiseFieldLine_eq _ _

theorem State.setRx_countDiscard (s : State) (p q : Port) (r : RxSide) :
    (s.setRx p r).countDiscard q = (s.countDiscard q).setRx p r := by
  cases p <;> cases q <;> rfl

/-- The 4 µs timer has no bearing on what an interruption does. -/
theorem State.setRx_interrupted (s : State) (p : Port) (n : Nat) (h : (s.port p).rx.state = .up) :
    (s.setRx p { (s.port p).rx with silence := n }).interrupted p = s.interrupted p := by
  rw [State.interrupted_eq _ p (by rw [State.port_setRx]; exact h), State.port_setRx, s.interrupted_eq p h]
  show (if (s.port p).rx.receiving then (s.setRx p _).countDiscard p else s.setRx p _).setRx p
    ⟨.interrupted, (s.port p).rx.idleCount, 0, 0, .between⟩ = _
  split_ifs
  · rw [State.setRx_countDiscard, State.setRx_setRx]
  · rw [State.setRx_setRx]

theorem State.setRx_lineLost (s : State) (p : Port) (n : Nat) (h : (s.port p).rx.state = .interrupted) :
    (s.setRx p { (s.port p).rx with lineDown := n }).lineLost p = s.lineLost p := by
  unfold State.lineLost
  rw [State.port_setRx, if_pos h, if_pos (show RxSide.state _ = _ from h), State.setRx_setRx]

theorem State.noSymbol_up (s : State) (p : Port) (h : (s.port p).rx.state = .up) :
    s.noSymbol p = if 64 ≤ (s.port p).rx.silence + 8 then s.interrupted p
      else s.setRx p { (s.port p).rx with silence := (s.port p).rx.silence + 8 } := by
  unfold State.noSymbol
  dsimp only
  split <;> rename_i hstate <;> simp only [h, reduceCtorEq] at hstate
  exact if_congr Iff.rfl (s.setRx_interrupted p _ h) rfl

theorem State.noSymbol_interrupted (s : State) (p : Port) (h : (s.port p).rx.state = .interrupted) :
    s.noSymbol p = if 160000 ≤ (s.port p).rx.lineDown + 8 then s.lineLost p
      else s.setRx p { (s.port p).rx with lineDown := (s.port p).rx.lineDown + 8 } := by
  unfold State.noSymbol
  dsimp only
  split <;> rename_i hstate <;> simp only [h, reduceCtorEq] at hstate
  exact if_congr Iff.rfl (s.setRx_lineLost p _ h) rfl

/-- Settles O10. -/
theorem lineInterruptionCommands : Obligations.LineInterruptionCommands := by
  refine ⟨fun s p h hup => ?_, fun s h hinterrupted => ?_, fun s => rfl, fun s => rfl,
    fun s p x h => ⟨fun hup hx => ?_, fun hinterrupted hx => ?_⟩⟩
  · exact takeClaim_eq (fun t => t.interrupted p) s _ h (s.interrupted_eq p hup)
  · exact takeClaim_eq (fun t => t.lineLost .f) s _ h (s.lineLost_f hinterrupted)
  · have hreceive : s.receive p x = s.noSymbol p := by
      rcases hx with rfl | ⟨rfl, hclosed⟩
      · rfl
      · exact s.receive_noSymbol p _ (.inl rfl) (.inr hclosed)
    rw [hreceive, s.noSymbol_up p hup]
    refine ⟨fun hshort => if_neg (by omega), fun hlong => ?_⟩
    rw [if_pos hlong]
    exact takeClaim_eq (fun t => t.interrupted p) s _ h rfl
  · rw [s.receive_noSymbol p x hx.symm (.inl (by simp [hinterrupted])), s.noSymbol_interrupted p hinterrupted]
    refine ⟨fun hshort => if_neg (by omega), fun hlong => ?_⟩
    rw [if_pos hlong]
    exact takeClaim_eq (fun t => t.lineLost p) s _ h rfl

/-- Settles O14. -/
theorem unmetEventsChangeNothing : Obligations.UnmetEventsChangeNothing := by
  refine ⟨fun s p y h => ⟨fun hs => ?_, fun hs => ⟨?_, ?_⟩, fun hs => ⟨?_, ?_⟩, fun hs => ⟨?_, ?_⟩⟩, fun s h hs => ?_,
    fun s h hs => ?_⟩
  · exact takeClaim_eq (fun t => t.firstSymbol p y) s s h (by simp [State.firstSymbol, hs])
  · exact takeClaim_eq (fun t => t.resumed p) s s h (if_neg hs)
  · exact takeClaim_eq (fun t => t.lineLost p) s s h (if_neg hs)
  · exact takeClaim_eq (fun t => t.acquired p) s s h (if_neg hs)
  · exact takeClaim_eq (fun t => t.acquisitionLost p) s s h (if_neg hs)
  · exact takeClaim_eq (fun t => t.interrupted p) s s h (if_neg hs)
  · exact takeClaim_eq (fun t => t.openFrame p) s s h (if_neg hs)
  · exact takeClaim_eq State.headComplete s s h (by simp [State.headComplete, hs])
  · exact takeClaim_eq State.fieldComplete s s h (by simp [State.fieldComplete, hs])

/-! ## Frames (section 1.3) -/

theorem State.openFrame_h (s : State) (h : s.hPort.rx.state = .up) :
    s.openFrame .h = (if s.hPort.rx.receiving then s.countDiscard .h else s).setRx .h
      { s.hPort.rx with silence := 0, reception := .inFrame [] } :=
  if_pos h

theorem State.openFrame_f (s : State) (h : s.fPort.rx.state = .up) :
    s.openFrame .f = if s.inbound.length < 10 then
        (if s.fPort.rx.receiving then s.countDiscard .f else s).setRx .f
          { s.fPort.rx with silence := 0, reception := .inFrame [] }
      else (if s.fPort.rx.receiving then s.countDiscard .f else s).countInboundDrop.setRx .f
        { s.fPort.rx with silence := 0, reception := .refused } :=
  if_pos h

theorem State.abandonFrame_eq (s : State) (p : Port) (cause : AbandonCause) (h : (s.port p).rx.state = .up)
    (hopen : (s.port p).rx.receiving = true) :
    s.abandonFrame p cause = (s.countDiscard p).setRx p
      { (s.port p).rx with
        silence := if cause = .violation then (s.port p).rx.silence else 0
        reception := .between } :=
  if_pos ⟨h, hopen⟩

theorem State.receive_of_up (s : State) (p : Port) (y : Symbol) (h : (s.port p).rx.state = .up) :
    s.receive p (.symbol y) = s.upSymbol p y := by
  simp only [State.receive, h]

/-- A violation abandons the frame in reception and then counts as a byte time without a recognised symbol (R4, R9). -/
theorem State.receive_violation (s : State) (p : Port) (h : (s.port p).rx.state = .up)
    (hopen : (s.port p).rx.receiving = true) :
    s.receive p .violation = if 64 ≤ (s.port p).rx.silence + 8 then s.interrupted p
      else (s.countDiscard p).setRx p
        { (s.port p).rx with silence := (s.port p).rx.silence + 8, reception := .between } := by
  show (s.abandonFrame p .violation).noSymbol p = _
  have hup : (((s.countDiscard p).setRx p { (s.port p).rx with reception := .between }).port p).rx.state = .up := by
    rw [State.port_setRx]
    exact h
  rw [s.abandonFrame_eq p _ h hopen]
  refine (State.noSymbol_up _ p hup).trans ?_
  rw [State.interrupted_eq _ p hup, s.interrupted_eq p h, State.port_setRx, if_pos hopen]
  simp [State.setRx_setRx, RxSide.receiving]

/-- Between frames, and in a frame that was refused a buffer, a symbol other than START and END only restarts the 4 µs
measurement (R8). -/
theorem State.upSymbol_of_closed (s : State) (p : Port) (y : Symbol) (hclosed : (s.port p).rx.receiving = false)
    (hstart : y ≠ .start) (hstop : y ≠ .stop) : s.upSymbol p y = s.setRx p { (s.port p).rx with silence := 0 } := by
  have hnone : ∀ bytes, (s.port p).rx.reception ≠ .inFrame bytes := fun bytes hb => by
    simp [RxSide.receiving, hb] at hclosed
  unfold State.upSymbol
  cases y with
  | start => exact absurd rfl hstart
  | stop => exact absurd rfl hstop
  | idle | data b =>
    dsimp only
    split
    · rename_i hb
      exact absurd hb (hnone _)
    · rfl
    · rfl

theorem State.upSymbol_stop_of_closed (s : State) (p : Port) (hclosed : (s.port p).rx.receiving = false) :
    s.upSymbol p .stop = s.setRx p { (s.port p).rx with silence := 0, reception := .between } := by
  unfold State.upSymbol
  dsimp only
  split
  · rename_i bytes hb
    simp [RxSide.receiving, hb] at hclosed
  · rename_i hb
    rw [hb]
  · rfl

/-- Settles O12. -/
theorem framesOpenAndAreAbandoned : Obligations.FramesOpenAndAreAbandoned := by
  refine ⟨fun s h hup => ?_, fun s h hup hroom => ?_, fun s h hup hclosed hfull => ?_, fun s p cause h hup hopen => ?_,
    fun s p bytes h hup hreception => ?_, fun s p h hup => ?_⟩
  · exact takeClaim_eq (fun t => t.openFrame .h) s _ h (s.openFrame_h hup)
  · exact takeClaim_eq (fun t => t.openFrame .f) s _ h ((s.openFrame_f hup).trans (if_pos hroom))
  · refine takeClaim_eq (fun t => t.openFrame .f) s _ h ((s.openFrame_f hup).trans (if_neg (by omega)) |>.trans ?_)
    rw [if_neg (by simp [hclosed])]
    rfl
  · exact takeClaim_eq (fun t => t.abandonFrame p cause) s _ h (s.abandonFrame_eq p cause hup hopen)
  · have hopen : (s.port p).rx.receiving = true := (RxSide.receiving_iff _).mpr ⟨bytes, hreception⟩
    refine ⟨fun b hroom => ?_, fun b hfull => ?_, ?_, fun hshort => ?_, fun hlong => ?_, fun hp => ?_, fun hp => ?_⟩
    · rw [s.receive_of_up p _ hup]
      simp only [State.upSymbol, hreception]
      exact if_pos hroom
    · refine takeClaim_eq (fun t => t.abandonFrame p .oversize) s _ h ?_
      rw [s.receive_of_up p _ hup]
      simp only [State.upSymbol, hreception]
      exact (if_neg (by simpa [Config.maxFrameBytes] using hfull)).symm
    · refine takeClaim_eq (fun t => t.abandonFrame p .idleInFrame) s _ h ?_
      rw [s.receive_of_up p _ hup]
      simp only [State.upSymbol, hreception]
    · rw [s.receive_violation p hup hopen]
      exact if_neg (by omega)
    · rw [s.receive_violation p hup hopen, if_pos hlong]
      exact takeClaim_eq (fun t => t.interrupted p) s _ h rfl
    · subst hp
      refine takeClaim_eq (fun t => t.fFrameEnd bytes) s _ h ?_
      rw [s.receive_of_up .f _ hup]
      simp only [State.upSymbol, hreception]
      rfl
    · subst hp
      refine takeClaim_eq (fun t => t.hFrameEnd bytes) s _ h ?_
      rw [s.receive_of_up .h _ hup]
      simp only [State.upSymbol, hreception]
      rfl
  · refine ⟨?_, fun hclosed y hstart hstop => ?_, fun hclosed => ?_⟩
    · exact takeClaim_eq (fun t => t.openFrame p) s _ h (s.receive_of_up p .start hup).symm
    · rw [s.receive_of_up p _ hup, s.upSymbol_of_closed p y hclosed hstart hstop]
    · rw [s.receive_of_up p _ hup, s.upSymbol_stop_of_closed p hclosed]

theorem State.fFrameEnd_eq (s : State) (bytes : List Byte) (h : s.fPort.rx.state = .up) :
    s.fFrameEnd bytes = if s.fPort.rx.receiving then
        match checkFrame bytes with
        | some .sample => { s.closeReception .f with inbound := s.inbound ++ [InboundFrame.mk .pending bytes] }
        | some .report => { s.closeReception .f with inbound := s.inbound ++ [InboundFrame.mk .ready bytes] }
        | some .response => { s.closeReception .f with inbound := s.inbound ++ [InboundFrame.mk .ready bytes] }
        | some .request => (s.closeReception .f).countDiscard .f
        | some .enumeration => (s.closeReception .f).countDiscard .f
        | none => (s.closeReception .f).countDiscard .f
      else s.closeReception .f := by
  unfold State.fFrameEnd
  rw [if_pos h]
  rfl

theorem exec_fFrameEnd (s u : State) (bytes : List Byte) (i : Instr) (hi : i = .sampleFrame bytes ∨ i = .transitFrame bytes)
    (h : s.tickDone = true) (hu : s.fFrameEnd bytes = u) : exec i s = .next u.withdrawPromotion := by
  rcases hi with rfl | rfl <;> exact takeClaim_eq (fun t => t.fFrameEnd bytes) s u h hu

/-- Settles O13: the two rows have one meaning, which reads the bytes alone. -/
theorem frameEndsJoinOrAreDiscarded : Obligations.FrameEndsJoinOrAreDiscarded := by
  refine ⟨fun s bytes i hi h hup => ⟨fun hopen hkind => ?_, fun hopen hkind => ?_, fun hopen hkind => ?_, fun hclosed => ?_⟩,
    fun s bytes h hopen hrequest henumeration => ?_⟩
  · exact exec_fFrameEnd s _ bytes i hi h (by rw [s.fFrameEnd_eq bytes hup, if_pos hopen, hkind])
  · rcases hkind with hkind | hkind <;>
      exact exec_fFrameEnd s _ bytes i hi h (by rw [s.fFrameEnd_eq bytes hup, if_pos hopen, hkind])
  · rcases hkind with hkind | hkind | hkind <;>
      exact exec_fFrameEnd s _ bytes i hi h (by rw [s.fFrameEnd_eq bytes hup, if_pos hopen, hkind])
  · exact exec_fFrameEnd s _ bytes i hi h (by rw [s.fFrameEnd_eq bytes hup, if_neg (by simp [hclosed])])
  · refine takeClaim_eq (fun t => t.hFrameEnd bytes) s _ h ?_
    obtain ⟨hup, hopen⟩ : s.hPort.rx.state = .up ∧ s.hPort.rx.receiving = true := by
      simpa [State.hReceiving] using hopen
    have hdiscard : s.hFrameEndWith (fun t => t.countDiscard .h) = s.afterHEnd.countDiscard .h := by
      rw [State.hFrameEndWith, if_pos hup, if_pos hopen]
      rfl
    unfold State.hFrameEnd
    split
    · rename_i hkind
      exact absurd hkind hrequest
    · rename_i hkind
      exact absurd hkind henumeration
    all_goals exact hdiscard

end Sys2Proof.Machine
end

section
/-! SUPPORT. The intake of requests and enumerations: the four checks, forwarding, broadcasts, and the requests that read. -/

namespace Sys2Proof.Machine

open Sys2Proof Relation

/-! ## Request intake (R155, R156) -/

/-- Every request row carries a request of its operation code to the same intake. -/
theorem exec_request (i : Instr) (op target tag : Byte) (operands : List Byte) (s : State)
    (hi : i.request? = some (op, target, tag, operands)) :
    exec i s = takeClaim (fun t => t.requestEnd (operationOf op) target tag op operands) s := by
  cases i <;> simp only [Instr.request?, Option.some.injEq, Prod.mk.injEq, reduceCtorEq] at hi
  all_goals
    obtain ⟨rfl, rfl, rfl, rfl⟩ := hi
    rfl

/-- An operation is listed under its own code. -/
theorem code_of_operationOf (op : Byte) (o : Operation) (h : operationOf op = some o) : o.code = op := by
  simpa using List.find?_some h

theorem mem_of_operationOf (op : Byte) (o : Operation) (h : operationOf op = some o) : o ∈ operations :=
  List.mem_of_find?_eq_some h

/-- Table 16 lists the codes 01h to 0Dh. -/
theorem operationOf_unlisted (op : Byte) (h : op = 0 ∨ 0x0D < op.toNat) : operationOf op = none := by
  rw [operationOf, List.find?_eq_none]
  intro o ho
  have hcode : 1 ≤ o.code.toNat ∧ o.code.toNat ≤ 13 := by
    have hall : ∀ x ∈ operations.map (·.code), 1 ≤ x.toNat ∧ x.toNat ≤ 13 := by decide
    exact hall _ (List.mem_map_of_mem ho)
  simp only [beq_iff_eq]
  rintro rfl
  rcases h with h | h
  · simp [h] at hcode
  · omega

/-- COMMIT, TRIP-ACK and RESET are the operations that broadcasts execute (R159). -/
theorem broadcast_iff (o : Operation) (ho : o ∈ operations) :
    o.broadcast = true ↔ o.code = 0x08 ∨ o.code = 0x0A ∨ o.code = 0x0D := by
  have hall : ∀ x ∈ operations.map (fun o => (o.broadcast, o.code)),
      x.1 = true ↔ x.2 = 0x08 ∨ x.2 = 0x0A ∨ x.2 = 0x0D := by decide +kernel
  exact hall _ (List.mem_map_of_mem (f := fun o => (o.broadcast, o.code)) ho)

theorem State.hReceiving_iff (s : State) : s.hReceiving = true ↔ s.hPort.rx.state = .up ∧ s.hPort.rx.receiving = true := by
  simp [State.hReceiving]

theorem State.hFrameEndWith_eq (s : State) (f : State → State) (h : s.hReceiving = true) :
    s.hFrameEndWith f = f s.afterHEnd := by
  obtain ⟨hup, hopen⟩ := s.hReceiving_iff.mp h
  rw [State.hFrameEndWith, if_pos hup, if_pos hopen]
  rfl

/-- The end of a request frame touches the H receive side alone. -/
@[simp] theorem State.afterHEnd_agent (s : State) : s.afterHEnd.agent = s.agent := rfl
@[simp] theorem State.afterHEnd_inbound (s : State) : s.afterHEnd.inbound = s.inbound := rfl
@[simp] theorem State.afterHEnd_fPort (s : State) : s.afterHEnd.fPort = s.fPort := rfl
@[simp] theorem State.afterHEnd_map (s : State) : s.afterHEnd.map = s.map := rfl
@[simp] theorem State.afterHEnd_table (s : State) : s.afterHEnd.table = s.table := rfl
@[simp] theorem State.afterHEnd_staleDue (s : State) : s.afterHEnd.staleDue = s.staleDue := rfl
@[simp] theorem State.afterHEnd_elapsed (s : State) : s.afterHEnd.elapsed = s.elapsed := rfl
@[simp] theorem State.afterHEnd_commit (s : State) : s.afterHEnd.commit = s.commit := rfl
@[simp] theorem State.afterHEnd_report (s : State) : s.afterHEnd.report = s.report := rfl
@[simp] theorem State.afterHEnd_groups (s : State) : s.afterHEnd.groups = s.groups := rfl
@[simp] theorem State.afterHEnd_promotion (s : State) : s.afterHEnd.promotion = s.promotion := rfl
@[simp] theorem State.afterHEnd_pending (s : State) : s.afterHEnd.pending = s.pending := rfl

theorem State.requestEnd_eq (s : State) (o : Option Operation) (target tag op : Byte) (operands : List Byte)
    (h : s.hReceiving = true) :
    s.requestEnd o target tag op operands
      = if requestFieldsOk target operands then s.afterHEnd.takeRequest o target tag op operands
        else s.afterHEnd.countDiscard .h :=
  s.hFrameEndWith_eq _ h

/-- A request row whose effect on the device with its reception closed is known. -/
theorem exec_request_eq (i : Instr) (op target tag : Byte) (operands : List Byte) (s u : State)
    (hi : i.request? = some (op, target, tag, operands)) (h : s.tickDone = true)
    (hu : s.requestEnd (operationOf op) target tag op operands = u) : exec i s = .next u.withdrawPromotion := by
  rw [exec_request i op target tag operands s hi]
  exact takeClaim_eq (fun t => t.requestEnd (operationOf op) target tag op operands) s u h hu

theorem State.addressedRequest_of_room (s : State) (o : Operation) (tag op : Byte) (operands : List Byte)
    (hroom : s.agent.responses.length < 2) : s.addressedRequest (some o) tag op operands = s.answerRequest o tag operands :=
  if_neg (Nat.not_le_of_lt hroom)

theorem State.answerRequest_length (s : State) (o : Operation) (tag : Byte) (operands : List Byte)
    (hlength : operands.length ≠ o.operandLength) :
    s.answerRequest o tag operands = s.respond (answer tag o.code .length false []) :=
  if_pos hlength

theorem State.answerRequest_repeat (s : State) (o : Operation) (tag : Byte) (operands : List Byte) (status : Status)
    (hlength : operands.length = o.operandLength) (hmutating : o.mutating operands = true)
    (hrecent : s.recentStatus tag = some status) :
    s.answerRequest o tag operands = s.respond (answer tag o.code status true []) := by
  rw [State.answerRequest, if_neg (by simpa using hlength), if_pos hmutating, hrecent]

/-- Settles O16: by the order of the checks. -/
theorem requestChecksComeFirst : Obligations.RequestChecksComeFirst := by
  refine ⟨by decide, fun i op target tag operands s hi h hopen hfields => ?_,
    fun s op target tag operands haddressed hroom hop => ?_, fun i op target tag operands s hi haddressed =>
      ⟨fun hfull => ?_, fun hroom hnone => ?_, fun o hroom ho hlength => ?_, fun o status hroom ho hlength hm hrecent => ?_⟩⟩
  · refine exec_request_eq i op target tag operands s _ hi h ?_
    rw [s.requestEnd_eq _ _ _ _ _ hopen, if_neg (by simp [hfields])]
  · refine exec_request_eq (.unknownOp op target tag operands) op target tag operands s _ rfl haddressed.1 ?_
    rw [s.requestEnd_of_addressed _ _ _ _ _ haddressed, operationOf_unlisted op hop]
    exact if_neg (Nat.not_le_of_lt hroom)
  all_goals
    refine exec_request_eq i op target tag operands s _ hi haddressed.1 ?_
    rw [s.requestEnd_of_addressed _ _ _ _ _ haddressed]
  · exact if_pos hfull
  · rw [hnone]
    exact if_neg (Nat.not_le_of_lt hroom)
  · rw [ho, State.addressedRequest_of_room s.afterHEnd o tag op operands hroom, State.answerRequest_length _ o tag operands hlength,
      code_of_operationOf op o ho]
  · rw [ho, State.addressedRequest_of_room s.afterHEnd o tag op operands hroom,
      State.answerRequest_repeat s.afterHEnd o tag operands status hlength hm hrecent, code_of_operationOf op o ho]

/-! ## Forwarding and broadcasts (R155, R159, R160) -/

theorem State.sendOutward_of_room (s : State) (bytes : List Byte) (h : s.agent.outbound.length < 4) :
    s.sendOutward bytes = { s with agent := { s.agent with outbound := s.agent.outbound ++ [⟨bytes, false⟩] } } :=
  if_pos h

theorem State.sendOutward_of_full (s : State) (bytes : List Byte) (h : 4 ≤ s.agent.outbound.length) :
    s.sendOutward bytes = { s with agent := { s.agent with counters := { s.agent.counters with
      outboundDrops := min 65535 (s.agent.counters.outboundDrops + 1) } } } :=
  if_neg (Nat.not_lt_of_le h)

theorem State.takeRequest_of_other (s : State) (o : Option Operation) (target tag op : Byte) (operands : List Byte)
    (h : s.agent.address ≠ some target) :
    s.takeRequest o target tag op operands
      = (if target = 31 then s.broadcastRequest o operands else s).sendOutward (requestFrameBytes target tag op operands) := by
  rw [State.takeRequest, if_neg h]
  split <;> rfl

/-- A broadcast that no operation executes (R159). -/
theorem State.broadcastRequest_of_other (s : State) (op : Byte) (operands : List Byte)
    (h : (op ≠ 0x08 ∧ op ≠ 0x0A ∧ op ≠ 0x0D) ∨ ∀ o, operationOf op = some o → operands.length ≠ o.operandLength) :
    s.broadcastRequest (operationOf op) operands = s := by
  cases ho : operationOf op with
  | none => rfl
  | some o =>
    refine if_neg fun hexecutes => ?_
    simp only [Bool.and_eq_true, beq_iff_eq] at hexecutes
    obtain ⟨hbroadcast, hlength⟩ := hexecutes
    rcases h with ⟨h8, hA, hD⟩ | hother
    · have hcode := (broadcast_iff o (mem_of_operationOf op o ho)).mp hbroadcast
      rw [code_of_operationOf op o ho] at hcode
      exact hcode.elim h8 (·.elim hA hD)
    · exact hother o ho hlength

/-- Settles O17. -/
theorem otherRequestsAreForwarded : Obligations.OtherRequestsAreForwarded := by
  refine ⟨fun i op target tag operands s hi h hopen hfields haddress hother => ?_, fun s bytes h => s.sendOutward_of_room bytes h,
    fun s bytes h => s.sendOutward_of_full bytes h,
    fun i op tag operands o s hi h hopen hfields haddress ho hop hlength => ?_⟩
  · refine exec_request_eq i op target tag operands s _ hi h ?_
    rw [s.requestEnd_eq _ _ _ _ _ hopen, if_pos hfields, State.takeRequest_of_other s.afterHEnd _ _ _ _ _ haddress]
    split
    · rename_i htarget
      rw [State.broadcastRequest_of_other _ op operands (hother.resolve_left (not_not.mpr htarget))]
    · rfl
  · refine exec_request_eq i op 31 tag operands s _ hi h ?_
    have hbroadcast : o.broadcast = true :=
      (broadcast_iff o (mem_of_operationOf op o ho)).mpr (by rwa [code_of_operationOf op o ho])
    rw [s.requestEnd_eq _ _ _ _ _ hopen, if_pos hfields, State.takeRequest_of_other s.afterHEnd _ _ _ _ _ haddress, if_pos rfl, ho]
    exact congrArg (fun t => State.sendOutward t _) (if_pos (by simp [hbroadcast, hlength]))

/-! ## Enumeration (R153, R154) -/

theorem State.candidate_iff (s : State) (mode : Byte) : s.candidate mode = true ↔ mode = 1 ∨ s.agent.address = none := by
  simp [State.candidate]

theorem State.takesAddress_iff (s : State) (mode next : Byte) :
    s.takesAddress mode next = true
      ↔ (mode = 1 ∨ s.agent.address = none) ∧ next ≠ 31 ∧ s.agent.responses.length < 2 := by
  simp [State.takesAddress, State.candidate_iff, Config.responseCapacity, and_assoc]

/-- The stage's part of an enumeration, before the frame goes on (R153). -/
def State.enumerated (s : State) (mode next tag : Byte) : State :=
  if s.takesAddress mode next then s.takeAddress next tag else s

theorem State.enumerate_exhausted (s : State) (mode next tag : Byte) :
    s.enumerate mode next 1 tag = s.enumerated mode next tag :=
  rfl

theorem State.enumerate_open (s : State) (mode next tag : Byte) :
    s.enumerate mode next 0 tag
      = (s.enumerated mode next tag).sendOutward
          (enumerationFrameBytes mode (if s.takesAddress mode next then next + 1 else next)
            (if s.candidate mode && next == 31 then 1 else 0) tag) :=
  rfl

theorem enumerationFlags (mode next flags : Byte) (h : enumerationFieldsOk mode next flags = true) : flags = 0 ∨ flags = 1 := by
  simp only [enumerationFieldsOk, Bool.and_eq_true, decide_eq_true_eq] at h
  bv_omega

/-- The agent after the stage's part: the address and the ADDRESSED response where it takes one (R153). -/
theorem State.enumerated_agent (s : State) (mode next tag : Byte) :
    (s.enumerated mode next tag).agent
      = if s.takesAddress mode next then
          { s.agent with
            address := some next
            responses := s.agent.responses ++ [⟨tag, 0, .addressed, false, [], some next, false⟩] }
        else s.agent := by
  unfold State.enumerated
  split <;> rfl

theorem State.enumerated_keeps (s : State) (mode next tag : Byte) :
    s.sameCore (s.enumerated mode next tag) ∧ (s.enumerated mode next tag).inbound = s.inbound
      ∧ (s.enumerated mode next tag).fPort = s.fPort ∧ (s.enumerated mode next tag).hPort = s.hPort
      ∧ (s.enumerated mode next tag).agent.outbound = s.agent.outbound
      ∧ (s.enumerated mode next tag).agent.counters = s.agent.counters
      ∧ (s.enumerated mode next tag).agent.recent = s.agent.recent
      ∧ (s.enumerated mode next tag).agent.settings = s.agent.settings
      ∧ (s.enumerated mode next tag).agent.lastCause = s.agent.lastCause := by
  unfold State.enumerated
  split <;> exact ⟨⟨rfl, rfl, rfl, rfl, rfl, rfl, rfl, rfl, rfl, rfl⟩, rfl, rfl, rfl, rfl, rfl, rfl, rfl, rfl⟩

/-- Forwarding touches the outbound queue and its drop counter alone (R160). -/
theorem State.sendOutward_keeps (s : State) (bytes : List Byte) :
    s.sameCore (s.sendOutward bytes) ∧ (s.sendOutward bytes).inbound = s.inbound ∧ (s.sendOutward bytes).fPort = s.fPort
      ∧ (s.sendOutward bytes).hPort = s.hPort ∧ (s.sendOutward bytes).agent.address = s.agent.address
      ∧ (s.sendOutward bytes).agent.responses = s.agent.responses ∧ (s.sendOutward bytes).agent.recent = s.agent.recent
      ∧ (s.sendOutward bytes).agent.settings = s.agent.settings
      ∧ (s.sendOutward bytes).agent.lastCause = s.agent.lastCause := by
  unfold State.sendOutward
  split <;> exact ⟨⟨rfl, rfl, rfl, rfl, rfl, rfl, rfl, rfl, rfl, rfl⟩, rfl, rfl, rfl, rfl, rfl, rfl, rfl, rfl⟩

theorem State.sameCore.trans {s t u : State} (h : s.sameCore t) (k : t.sameCore u) : s.sameCore u := by
  obtain ⟨h1, h2, h3, h4, h5, h6, h7, h8, h9, h10⟩ := h
  obtain ⟨k1, k2, k3, k4, k5, k6, k7, k8, k9, k10⟩ := k
  exact ⟨k1.trans h1, k2.trans h2, k3.trans h3, k4.trans h4, k5.trans h5, k6.trans h6, k7.trans h7, k8.trans h8, k9.trans h9,
    k10.trans h10⟩

/-- The withdrawal of the promotion touches the promotion counter alone. -/
theorem State.withdrawPromotion_sameCore (s : State) : s.sameCore s.withdrawPromotion := by
  unfold State.withdrawPromotion
  split <;> exact ⟨rfl, rfl, rfl, rfl, rfl, rfl, rfl, rfl, rfl, rfl⟩

/-- An enumeration touches the agent alone, and there neither settings, list of requests nor reset cause. -/
theorem State.enumerate_keeps (s : State) (mode next flags tag : Byte) (hflags : flags = 0 ∨ flags = 1) :
    s.sameCore (s.enumerate mode next flags tag) ∧ (s.enumerate mode next flags tag).inbound = s.inbound
      ∧ (s.enumerate mode next flags tag).fPort = s.fPort ∧ (s.enumerate mode next flags tag).hPort = s.hPort
      ∧ (s.enumerate mode next flags tag).agent.recent = s.agent.recent
      ∧ (s.enumerate mode next flags tag).agent.settings = s.agent.settings
      ∧ (s.enumerate mode next flags tag).agent.lastCause = s.agent.lastCause
      ∧ (s.enumerate mode next flags tag).agent.address = (s.enumerated mode next tag).agent.address
      ∧ (s.enumerate mode next flags tag).agent.responses = (s.enumerated mode next tag).agent.responses := by
  obtain ⟨h1, h2, h3, h4, -, -, h5, h6, h7⟩ := s.enumerated_keeps mode next tag
  rcases hflags with rfl | rfl
  · rw [s.enumerate_open]
    generalize hbytes : enumerationFrameBytes mode _ _ tag = bytes
    obtain ⟨k1, k2, k3, k4, k5, k6, k7, k8, k9⟩ := (s.enumerated mode next tag).sendOutward_keeps bytes
    exact ⟨h1.trans k1, k2.trans h2, k3.trans h3, k4.trans h4, k7.trans h5, k8.trans h6, k9.trans h7, k5, k6⟩
  · rw [s.enumerate_exhausted]
    exact ⟨h1, h2, h3, h4, h5, h6, h7, rfl, rfl⟩

/-- Settles O15. -/
theorem enumerationTakesAndForwards : Obligations.EnumerationTakesAndForwards := by
  intro s mode next flags tag h hopen hfields
  have hflags := enumerationFlags mode next flags hfields
  obtain ⟨hcore, hinbound, hfPort, hhPort, hrecent, hsettings, hcause, haddress, hresponses⟩ :=
    s.afterHEnd.enumerate_keeps mode next flags tag hflags
  have hend : s.enumerationEnd mode next flags tag = s.afterHEnd.enumerate mode next flags tag :=
    (s.hFrameEndWith_eq _ hopen).trans (if_pos hfields)
  obtain ⟨-, -, -, -, houtbound, hcounters, -⟩ := s.afterHEnd.enumerated_keeps mode next tag
  have hagent := s.afterHEnd.enumerated_agent mode next tag
  have htakes := s.afterHEnd.takesAddress_iff mode next
  have hcandidate := s.afterHEnd.candidate_iff mode
  have hstart : s.sameCore s.afterHEnd := ⟨rfl, rfl, rfl, rfl, rfl, rfl, rfl, rfl, rfl, rfl⟩
  refine ⟨_, takeClaim_eq (fun t => t.enumerationEnd mode next flags tag) s _ h hend,
    (hstart.trans hcore).trans (State.withdrawPromotion_sameCore _), by simpa using hinbound, by simpa using hfPort,
    by simpa using hhPort, by simpa using hrecent, by simpa using hsettings, by simpa using hcause, ?_⟩
  simp only [State.withdrawPromotion_agent, haddress, hresponses, hagent]
  refine ⟨fun ht => ?_, fun ht => ?_, fun hone => ?_, fun hzero hroom => ?_, fun hzero hfull => ?_⟩
  · rw [if_pos (htakes.mpr ht)]
    exact ⟨rfl, rfl⟩
  · rw [if_neg fun hn => ht (htakes.mp hn)]
    exact ⟨rfl, rfl⟩
  · subst hone
    rw [State.enumerate_exhausted]
    exact ⟨houtbound, hcounters⟩
  · subst hzero
    rw [State.enumerate_open, State.sendOutward_of_room _ _ (by rw [houtbound]; exact hroom)]
    dsimp only
    rw [houtbound]
    refine ⟨hcounters, fun ht => ?_, fun ht hnext => ?_, fun hc hnext => ?_⟩
    · obtain ⟨-, hne, -⟩ := id ht
      rw [if_pos (htakes.mpr ht), if_neg (by rw [Bool.and_eq_true, beq_iff_eq]; exact fun hn => hne hn.2)]
      rfl
    · rw [if_neg fun hn => ht (htakes.mp hn), if_neg]
      · rfl
      · simp only [Bool.and_eq_true, beq_iff_eq, hcandidate]
        rintro ⟨hc, hn⟩
        exact hnext.elim (absurd hn) (absurd hc)
    · rw [if_neg fun hn => (htakes.mp hn).2.1 hnext, if_pos (by simp [hcandidate.mpr hc, hnext]), hnext]
      rfl
  · subst hzero
    rw [State.enumerate_open, State.sendOutward_of_full _ _ (by rw [houtbound]; exact hfull)]
    dsimp only
    rw [houtbound, hcounters]
    exact ⟨rfl, rfl⟩

end Sys2Proof.Machine
end

section
/-! SUPPORT. The byte formats of two-byte and four-byte fields, and the requests that read, stage, acknowledge and store. -/

namespace Sys2Proof.Machine

open Sys2Proof Relation

/-! ## Fields of two and four bytes -/

theorem halfOf_extract (w : Half) : halfOf (w.extractLsb' 8 8) (w.extractLsb' 0 8) = w := by
  rw [halfOf, BitVec.extractLsb'_append_extractLsb'_eq_extractLsb' (show 8 = 0 + 8 from rfl)]
  exact BitVec.extractLsb'_eq_self

theorem wordOf_extract (w : BitVec 32) :
    wordOf (w.extractLsb' 24 8) (w.extractLsb' 16 8) (w.extractLsb' 8 8) (w.extractLsb' 0 8) = w := by
  rw [wordOf, BitVec.extractLsb'_append_extractLsb'_eq_extractLsb' (show 24 = 16 + 8 from rfl),
    BitVec.extractLsb'_append_extractLsb'_eq_extractLsb' (show 16 = 8 + 8 from rfl),
    BitVec.extractLsb'_append_extractLsb'_eq_extractLsb' (show 8 = 0 + 8 from rfl)]
  exact BitVec.extractLsb'_eq_self

/-- A field of two bytes reads back as the number it was written from, where the two bytes stand side by side. -/
theorem halfOf_natBytes (n : Nat) :
    halfOf ((BitVec.ofNat 16 n).extractLsb' 8 8) ((BitVec.ofNat 16 n).extractLsb' 0 8) = BitVec.ofNat 16 n :=
  halfOf_extract _

/-! ## Requests that are answered (R156, R157, R165) -/

/-- A request row that only reads: answered, and nothing recorded. -/
theorem exec_read (i : Instr) (o : Operation) (target tag : Byte) (operands : List Byte) (s : State)
    (hi : i.request? = some (o.code, target, tag, operands)) (ho : operationOf o.code = some o)
    (h : s.addressed target operands) (hroom : s.agent.responses.length < 2) (hlength : operands.length = o.operandLength)
    (hm : o.mutating operands = false) (status : Status) (payload : List Byte)
    (hperform : o.perform operands s.afterHEnd = ⟨status, payload, s.afterHEnd⟩) :
    exec i s = .next (s.afterHEnd.respond (answer tag o.code status false payload)).withdrawPromotion := by
  refine exec_request_eq i o.code target tag operands s _ hi h.1 ?_
  rw [ho, s.requestEnd_of_read o target tag o.code operands h hroom hlength hm, hperform]

/-- A request row that changes something: performed, answered and recorded. -/
theorem exec_mutating (i : Instr) (o : Operation) (target tag : Byte) (operands : List Byte) (s : State)
    (hi : i.request? = some (o.code, target, tag, operands)) (ho : operationOf o.code = some o)
    (h : s.accepts target tag operands) (hlength : operands.length = o.operandLength) (hm : o.mutating operands = true)
    (hrecorded : o.recorded = true) (reply : Reply) (hperform : o.perform operands s.afterHEnd = reply) :
    exec i s = .next (reply.state.answered tag o.code reply.status reply.payload) := by
  rw [exec_request i o.code target tag operands s hi, ho, takeClaim_requestEnd s o target tag o.code operands h hlength hm
    hrecorded, hperform]

/-! ## Requests that read (R26, R31, R34, R166, R167, R168, R172) -/

theorem identity_address (a : Byte) (h : a.toNat ≤ 30) : BitVec.ofNat 8 (128 + a.toNat % 32) = 0x80 ||| a := by
  have hall : ∀ a : Byte, a.toNat ≤ 30 → BitVec.ofNat 8 (128 + a.toNat % 32) = 0x80 ||| a := by decide +kernel
  exact hall a h

theorem runState_flags (a b c : Bool) :
    let x : Byte := BitVec.ofNat 8 (flagBit a 0 + flagBit b 1 + flagBit c 2)
    x.getLsbD 0 = a ∧ x.getLsbD 1 = b ∧ x.getLsbD 2 = c ∧ x.toNat < 8 := by
  cases a <;> cases b <;> cases c <;> decide

/-- The identity record, place by place (Table 21). -/
theorem State.identity_layout (s : State) :
    let b (i : Nat) := byteAt s.identity i
    let w (i : Nat) := halfOf (b i) (b (i + 1))
    s.identity.length = 24 ∧ w 0 = 0x6C96 ∧ b 2 = 0x02
      ∧ (s.agent.address = none → b 3 = 0)
      ∧ (∀ a, s.agent.address = some a → a.toNat ≤ 30 → b 3 = 0x80 ||| a)
      ∧ [ResetCause.powerOn, .pin, .request, .headLoss].map ResetCause.code = [0, 1, 2, 3]
      ∧ b 4 = BitVec.ofNat 8 s.agent.lastCause.code ∧ b 5 = s.commit.generation
      ∧ b 6 = (if s.commit.pending then 1 else 0) ∧ b 7 = BitVec.ofNat 8 (s.table.countP (·.run.waiting))
      ∧ w 8 = BitVec.ofNat 16 (if s.commit.pending then s.commit.deadline else 0)
      ∧ b 10 = BitVec.ofNat 8 s.map.length ∧ b 11 = BitVec.ofNat 8 s.report.queue.length
      ∧ b 12 = BitVec.ofNat 8 s.report.unacked.length ∧ b 13 = s.report.nextSequence
      ∧ w 14 = BitVec.ofNat 16 s.agent.counters.fReceiveDiscards ∧ w 16 = BitVec.ofNat 16 s.agent.counters.inboundDrops
      ∧ w 18 = BitVec.ofNat 16 s.agent.counters.hReceiveDiscards ∧ w 20 = BitVec.ofNat 16 s.agent.counters.outboundDrops
      ∧ w 22 = BitVec.ofNat 16 s.agent.counters.droppedRequests := by
  have haddress : byteAt s.identity 3
      = match s.agent.address with | some a => BitVec.ofNat 8 (128 + a.toNat % 32) | none => 0 := rfl
  have hword : halfOf 0x6C 0x96 = 0x6C96 := by decide
  refine ⟨rfl, hword, rfl, fun hnone => ?_, fun a ha hle => ?_, rfl, rfl, rfl, ?_, rfl, halfOf_natBytes _, rfl, rfl, rfl, rfl,
    halfOf_natBytes _, halfOf_natBytes _, halfOf_natBytes _, halfOf_natBytes _, halfOf_natBytes _⟩
  · exact haddress.trans (by rw [hnone])
  · exact haddress.trans (by rw [ha]; exact identity_address a hle)
  · show BitVec.ofNat 8 (flagBit s.commit.pending 0) = _
    cases s.commit.pending <;> rfl

/-- The run-state payload, place by place (Table 22). -/
theorem State.runStatePayload_layout (s : State) (e : Nat) :
    let x := (s.entry e).run
    let b (i : Nat) := byteAt (s.runStatePayload e) i
    let value := wordOf (b 7) (b 8) (b 9) (b 10)
    (s.runStatePayload e).length = 15 ∧ b 0 = BitVec.ofNat 8 e ∧ b 1 = BitVec.ofNat 8 x.condition.code
      ∧ [Condition.idle, .normal, .rising, .high, .highClearing, .falling, .low, .lowClearing, .stale].map Condition.code
          = [0, 1, 2, 3, 4, 5, 6, 7, 8]
      ∧ (b 2).getLsbD 0 = x.lastValue.isSome ∧ (b 2).getLsbD 1 = x.waiting ∧ (b 2).getLsbD 2 = s.pairedUpper e
      ∧ (b 2).toNat < 8
      ∧ b 3 = BitVec.ofNat 8 x.persistence ∧ b 4 = BitVec.ofNat 8 x.position ∧ halfOf (b 5) (b 6) = BitVec.ofNat 16 x.age
      ∧ (x.lastValue = none → value = 0) ∧ (∀ v, x.lastValue = some v → value = BitVec.ofInt 32 v)
      ∧ b 11 = x.generation ∧ b 12 = BitVec.ofNat 8 x.splitCount ∧ b 13 = BitVec.ofNat 8 x.tally
      ∧ (x.lastKind = none → b 14 = 0) ∧ (∀ k, x.lastKind = some k → b 14 = BitVec.ofNat 8 k.code)
      ∧ [EventKind.enterHigh, .enterLow, .returned, .stale, .resume, .split, .fieldDown, .fieldUp, .commitDone, .lost,
          .restarted].map EventKind.code = [1, 2, 3, 4, 5, 6, 7, 8, 9, 10, 11] := by
  obtain ⟨hvalue, hwaiting, hpaired, hrange⟩ := runState_flags (s.entry e).run.lastValue.isSome (s.entry e).run.waiting
    (s.pairedUpper e)
  have hword : wordOf (byteAt (s.runStatePayload e) 7) (byteAt (s.runStatePayload e) 8) (byteAt (s.runStatePayload e) 9)
      (byteAt (s.runStatePayload e) 10) = BitVec.ofInt 32 ((s.entry e).run.lastValue.getD 0) := wordOf_extract _
  have hkind : byteAt (s.runStatePayload e) 14
      = BitVec.ofNat 8 (match (s.entry e).run.lastKind with | some k => k.code | none => 0) := rfl
  refine ⟨rfl, rfl, rfl, rfl, hvalue, hwaiting, hpaired, hrange, rfl, rfl, halfOf_natBytes _, fun hnone => ?_,
    fun v hv => ?_, rfl, rfl, rfl, fun hnone => ?_, fun k hk => ?_, rfl⟩
  · exact hword.trans (by rw [hnone]; rfl)
  · exact hword.trans (by rw [hv]; rfl)
  · exact hkind.trans (by rw [hnone]; rfl)
  · exact hkind.trans (by rw [hk])

/-- The slot byte of a READ-ENTRY, or the flag byte of a READ-STATE, past its largest value. -/
theorem byte_ne_of_two_le (x : Byte) (h : 2 ≤ x.toNat) : x ≠ 0 ∧ x ≠ 1 := by
  constructor <;> rintro rfl <;> simp at h

/-- Settles O18. -/
theorem readRequestsAnswerAndChangeNothing : Obligations.ReadRequestsAnswerAndChangeNothing := by
  refine ⟨State.identity_layout, State.runStatePayload_layout, fun s start => ⟨?_, s.mapListPayload_length start⟩,
    fun s target tag hroom => ⟨fun h => ?_, fun e h he => ⟨?_, ?_⟩, fun e h he => ?_, fun e x h hrange => ?_,
      fun e h he => ?_, fun start h => ?_, fun h => ?_⟩⟩
  · have htake : (s.map.drop start).take (min 16 (s.map.length - start)) = (s.map.drop start).take 16 := by
      rw [← List.length_drop, List.take_eq_take_iff]
      omega
    unfold State.mapListPayload
    simp only [htake, List.length_take, List.length_drop]
    rfl
  · exact exec_read _ opIdentify target tag _ s rfl rfl h hroom rfl rfl _ _ rfl
  · exact exec_read _ opReadEntry target tag _ s rfl rfl h hroom rfl rfl _ _
      ((if_neg (by simpa [byteAt, Config.entryCount] using he)).trans (if_pos rfl))
  · exact exec_read _ opReadState target tag _ s rfl rfl h hroom rfl rfl _ _
      ((if_neg (by simpa [byteAt, Config.entryCount] using he)).trans (if_pos rfl))
  · exact exec_read _ opReadEntry target tag _ s rfl rfl h hroom rfl rfl _ _
      ((if_neg (by simpa [byteAt, Config.entryCount] using he)).trans ((if_neg (show (1 : Byte) ≠ 0 by decide)).trans (if_pos rfl)))
  · refine exec_read _ opReadEntry target tag _ s rfl rfl h hroom rfl rfl _ _ ?_
    by_cases he : 96 ≤ e.toNat
    · exact if_pos (by simpa [byteAt, Config.entryCount] using he)
    · obtain ⟨h0, h1⟩ := byte_ne_of_two_le x (hrange.resolve_left he)
      exact (if_neg (by simpa [byteAt, Config.entryCount] using he)).trans ((if_neg h0).trans (if_neg h1))
  · exact exec_read _ opReadState target tag _ s rfl rfl h hroom rfl rfl _ _
      (if_pos (by simpa [byteAt, Config.entryCount] using he))
  · exact exec_read _ opMapList target tag _ s rfl rfl h hroom rfl rfl _ _ rfl
  · exact exec_read _ opReadSettings target tag _ s rfl rfl h hroom rfl rfl _ _ rfl

theorem byte_bne_of_two_le (x : Byte) (h : 2 ≤ x.toNat) : (x != 0) = true := by
  simpa using (byte_ne_of_two_le x h).1

/-- Settles O19. -/
theorem clearingRequestsClearAfterReading : Obligations.ClearingRequestsClearAfterReading := by
  refine fun s target tag => ⟨fun h => ?_, fun flag h hflag => ?_, fun e h he => ?_, fun e flag h hzero hrange => ?_⟩
  · exact exec_mutating _ opIdentify target tag _ s rfl rfl h rfl rfl rfl _ rfl
  · obtain ⟨h0, h1⟩ := byte_ne_of_two_le flag hflag
    exact exec_mutating _ opIdentify target tag [flag] s rfl rfl h rfl (byte_bne_of_two_le flag hflag) rfl
      (Reply.refuse .range s.afterHEnd) ((if_neg h0).trans (if_neg h1))
  · exact exec_mutating _ opReadState target tag [e, 1] s rfl rfl h rfl rfl rfl
      ⟨.done, s.runStatePayload e.toNat, s.afterHEnd.modifyRun e.toNat fun r => { r with tally := 0, lastKind := none }⟩
      ((if_neg (by simpa [byteAt, Config.entryCount] using he)).trans ((if_neg (show (1 : Byte) ≠ 0 by decide)).trans (if_pos rfl)))
  · refine exec_mutating _ opReadState target tag [e, flag] s rfl rfl h rfl ?_ rfl (Reply.refuse .range s.afterHEnd) ?_
    · show (flag != 0) = true
      simpa using hzero
    · by_cases he : 96 ≤ e.toNat
      · exact if_pos (by simpa [byteAt, Config.entryCount] using he)
      · obtain ⟨h0, h1⟩ := byte_ne_of_two_le flag (hrange.resolve_left he)
        exact (if_neg (by simpa [byteAt, Config.entryCount] using he)).trans ((if_neg h0).trans (if_neg h1))

end Sys2Proof.Machine
end

section
/-! SUPPORT. WRITE-ENTRY, REPORT-ACK, TRIP-ACK, WRITE-SETTINGS and RESET. -/

namespace Sys2Proof.Machine

open Sys2Proof Relation

/-! ## WRITE-ENTRY (R25, R29, R30) -/

/-- The four conditions of R29, at the width the record's own pair field gives. -/
theorem ConfigRecord.valid_iff (r : ConfigRecord) (e : Nat) : r.valid e = true ↔
    (r.pair = true → e % 2 = 0)
      ∧ (∀ v ∈ [r.offset, r.high, r.low],
          if r.pair then -2147483648 ≤ v ∧ v ≤ 2147483647 else -32768 ≤ v ∧ v ≤ 32767)
      ∧ (r.hysteresis ≤ if r.pair then 2147483647 else 32767)
      ∧ (r.highCheck = true → r.lowCheck = true → r.low < r.high ∧ 2 * (r.hysteresis : Int) ≤ r.high - r.low) := by
  have hwidth : ∀ v, r.inWidth v = true ↔ if r.pair then -2147483648 ≤ v ∧ v ≤ 2147483647 else -32768 ≤ v ∧ v ≤ 32767 :=
    fun v => by
      rw [ConfigRecord.inWidth, decide_eq_true_eq, ConfigRecord.widthMin, ConfigRecord.widthMax]
      split <;> omega
  have hhysteresis : (r.hysteresis : Int) ≤ r.widthMax ↔ r.hysteresis ≤ if r.pair then 2147483647 else 32767 := by
    rw [ConfigRecord.widthMax]
    split <;> omega
  simp only [ConfigRecord.valid, Bool.and_eq_true, hwidth, decide_eq_true_eq, hhysteresis, List.forall_mem_cons,
    Bool.or_eq_true, Bool.not_eq_true', beq_iff_eq, Bool.and_eq_false_iff]
  refine ⟨fun ⟨⟨⟨hpair, ⟨ho, hh⟩, hl⟩, hhyst⟩, hchecks⟩ => ⟨?_, ⟨ho, hh, hl, by simp⟩, hhyst, ?_⟩,
    fun ⟨hpair, ⟨ho, hh, hl, _⟩, hhyst, hchecks⟩ => ⟨⟨⟨?_, ⟨ho, hh⟩, hl⟩, hhyst⟩, ?_⟩⟩
  · exact fun hp => hpair.resolve_left (by simp [hp])
  · exact fun hhigh hlow => hchecks.resolve_left (by simp [hhigh, hlow])
  · cases hp : r.pair
    · exact .inl rfl
    · exact .inr (hpair hp)
  · cases hhigh : r.highCheck
    · exact .inl (.inl rfl)
    · cases hlow : r.lowCheck
      · exact .inl (.inr rfl)
      · exact .inr (hchecks hhigh hlow)

/-- The recent-request list after an answer: four entries at most, the oldest leaving first (R157). -/
theorem State.answered_recent (s : State) (tag op : Byte) (status : Status) (payload : List Byte) :
    (s.answered tag op status payload).agent.recent = (s.record tag status).agent.recent := by
  rw [State.answered, State.withdrawPromotion_agent]
  rfl

theorem State.record_recent_of_room (s : State) (tag : Byte) (status : Status) (h : s.agent.recent.length < 4) :
    (s.record tag status).agent.recent = s.agent.recent ++ [(tag, status)] := by
  show (if s.agent.recent.length < Config.recentCapacity then _ else _) ++ [(tag, status)] = _
  rw [if_pos h]

theorem State.record_recent_of_full (s : State) (tag : Byte) (status : Status) (x : Byte × Status)
    (rest : List (Byte × Status)) (h : s.agent.recent = x :: rest) (hlength : rest.length = 3) :
    (s.record tag status).agent.recent = rest ++ [(tag, status)] := by
  show (if s.agent.recent.length < Config.recentCapacity then s.agent.recent
    else s.agent.recent.drop (s.agent.recent.length + 1 - Config.recentCapacity)) ++ [(tag, status)] = _
  simp [h, hlength, Config.recentCapacity]

/-- Settles O20. -/
theorem writeEntryStagesTheRecord : Obligations.WriteEntryStagesTheRecord := by
  refine ⟨ConfigRecord.valid_iff, fun s target tag e record h hlength => ?_⟩
  have hrow : ∀ reply, performWriteEntry (e :: record) s.afterHEnd = reply →
      exec (.writeEntry target tag (e :: record)) s = .next (reply.state.answered tag 0x03 reply.status reply.payload) :=
    fun reply hreply => exec_mutating _ opWriteEntry target tag _ s rfl rfl h (by simp [hlength, opWriteEntry]) rfl rfl reply hreply
  have hin : e.toNat < 96 → ¬Config.entryCount ≤ (byteAt (e :: record) 0).toNat := fun he =>
    Nat.not_le_of_lt (by simpa [byteAt] using he)
  refine ⟨fun he => ?_, fun he hp => ?_, fun he hp hnone => ?_, fun r he hp hr hv => ?_, fun op status payload => ⟨?_, ?_, ?_⟩⟩
  · exact hrow (Reply.refuse .range s.afterHEnd) (if_pos (by simpa [byteAt, Config.entryCount] using he))
  · exact hrow (Reply.refuse .busy s.afterHEnd) ((if_neg (hin he)).trans (if_pos hp))
  · refine hrow (Reply.refuse .invalid s.afterHEnd) ((if_neg (hin he)).trans ((if_neg (by simp [hp])).trans ?_))
    rw [List.drop_one, List.tail_cons]
    cases hr : decodeRecord record with
    | none => rfl
    | some r => exact if_neg (by simpa [byteAt] using hnone r hr)
  · refine hrow ⟨.done, [], { s.afterHEnd with table := s.table.modify e.toNat fun x => { x with staging := r } }⟩
      ((if_neg (hin he)).trans ((if_neg (by simp [hp])).trans ?_))
    rw [List.drop_one, List.tail_cons, hr]
    exact if_pos (by simpa [byteAt] using hv)
  · exact s.answered_responses tag op status payload
  · exact fun hroom => (s.answered_recent tag op status payload).trans (s.record_recent_of_room tag status hroom)
  · exact fun x rest hrecent hfull =>
      (s.answered_recent tag op status payload).trans (s.record_recent_of_full tag status x rest hrecent hfull)

/-! ## REPORT-ACK (R129) -/

/-- Settles O25. -/
theorem reportAckIsCumulative : Obligations.ReportAckIsCumulative := by
  refine ⟨fun s target tag n older newer f h hlist hf hnone => ?_, fun s target tag n h hnone => ?_⟩
  · have hany : s.report.unacked.any (fun x => x.sequence == n) = true := by simp [hlist, hf]
    have hsplit : splitThrough (fun x : ReportFrame => x.sequence == n) s.report.unacked = (older ++ [f], newer) := by
      rw [hlist]
      exact splitThrough_append _ older newer f (by simp [hf]) fun x hx => by simpa using hnone x hx
    refine exec_mutating _ opReportAck target tag [n] s rfl rfl h rfl rfl rfl
      ⟨.done, [BitVec.ofNat 8 (older.length + 1)], { s.afterHEnd with report := { s.report with unacked := newer } }⟩ ?_
    refine (if_pos hany).trans ?_
    show Reply.mk .done [BitVec.ofNat 8 (splitThrough (fun x : ReportFrame => x.sequence == n) s.report.unacked).1.length] _ = _
    simp only [State.afterHEnd_report, byteAt, List.getD_cons_zero, hsplit, List.length_append, List.length_singleton]
  · refine exec_mutating _ opReportAck target tag [n] s rfl rfl h rfl rfl rfl (Reply.refuse .notFound s.afterHEnd) (if_neg ?_)
    simpa [byteAt] using hnone

/-! ## TRIP-ACK (R137, R138, Table 58) -/

theorem GroupState.code_lt (x : GroupState) : x.code < 3 := by cases x <;> decide

theorem GroupState.code_iff (x : GroupState) :
    (x.code = 0 ↔ x = .clear) ∧ (x.code = 1 ↔ x = .asserted) ∧ (x.code = 2 ↔ x = .latched) := by
  cases x <;> decide

/-- Each group's two bits of the group-states byte (Table 16). -/
theorem State.groupStates_digit (s : State) (g : Nat) (h : g < 4) :
    s.groupStates.toNat / 4 ^ g % 4 = (s.group g).state.code := by
  have h0 := (s.group 0).state.code_lt
  have h1 := (s.group 1).state.code_lt
  have h2 := (s.group 2).state.code_lt
  have h3 := (s.group 3).state.code_lt
  have hbyte : s.groupStates.toNat = (s.group 0).state.code + 4 * (s.group 1).state.code + 16 * (s.group 2).state.code
      + 64 * (s.group 3).state.code := by
    rw [State.groupStates, BitVec.toNat_ofNat]
    exact Nat.mod_eq_of_lt (by omega)
  rw [hbyte]
  interval_cases g <;> omega

theorem acknowledged_groups (l : List TripGroup) (g : Nat) :
    l.modify g TripGroup.acknowledged
      = l.zipIdx.map fun (x : TripGroup × Nat) =>
          if (x.2 == g) = true ∧ x.1.state = .latched then { x.1 with state := .clear } else x.1 := by
  apply List.ext_getElem?
  intro i
  simp only [List.getElem?_modify, List.getElem?_map, List.getElem?_zipIdx, Option.map_map]
  cases l[i]? with
  | none => rfl
  | some x =>
    by_cases hi : g = i
    · simp [hi, TripGroup.acknowledged]
    · simp [hi, Ne.symm hi]

theorem acknowledged_all (l : List TripGroup) :
    l.map TripGroup.acknowledged
      = l.zipIdx.map fun (x : TripGroup × Nat) =>
          if (fun _ : Nat => true) x.2 = true ∧ x.1.state = .latched then { x.1 with state := .clear } else x.1 := by
  apply List.ext_getElem?
  intro i
  simp only [List.getElem?_map, List.getElem?_zipIdx, Option.map_map]
  cases l[i]? <;> simp [TripGroup.acknowledged]

/-- An acknowledgement leaves ASSERTED groups ASSERTED, and makes none so (R138). -/
theorem asserted_acknowledged (l : List TripGroup) :
    (l.map TripGroup.acknowledged).any (fun x => x.state == .asserted) = l.any fun x => x.state == .asserted := by
  rw [List.any_map]
  refine congrArg (List.any l) (funext fun x => ?_)
  rcases x with ⟨set, state⟩
  cases state <;> rfl

/-- Settles O26. -/
theorem tripAckReleasesLatchedGroups : Obligations.TripAckReleasesLatchedGroups := by
  refine ⟨fun s g hg => ?_, fun s target tag g h hfour => ⟨fun hg => ?_, fun hg => ?_, fun hg hne => ?_⟩⟩
  · rw [s.groupStates_digit g hg]
    exact GroupState.code_iff _
  · have hexec := exec_mutating (.tripAck target tag [g]) opTripAck target tag [g] s rfl rfl h rfl rfl rfl
      ⟨if (s.group g.toNat).state = .asserted then .active else .done,
        [({ s.afterHEnd with groups := s.groups.modify g.toNat TripGroup.acknowledged } : State).groupStates],
        { s.afterHEnd with groups := s.groups.modify g.toNat TripGroup.acknowledged }⟩ (if_pos hg)
    rw [acknowledged_groups] at hexec
    exact hexec
  · have hexec := exec_mutating (.tripAck target tag [g]) opTripAck target tag [g] s rfl rfl h rfl rfl rfl
      ⟨if (s.groups.map TripGroup.acknowledged).any (fun x => x.state == .asserted) then .active else .done,
        [({ s.afterHEnd with groups := s.groups.map TripGroup.acknowledged } : State).groupStates],
        { s.afterHEnd with groups := s.groups.map TripGroup.acknowledged }⟩
      ((if_neg (by simp [byteAt, Config.groupCount, hg])).trans (if_pos hg))
    rw [asserted_acknowledged, acknowledged_all] at hexec
    exact hexec
  · exact exec_mutating _ opTripAck target tag [g] s rfl rfl h rfl rfl rfl (Reply.refuse .range s.afterHEnd)
      ((if_neg (Nat.not_lt_of_le hg)).trans (if_neg hne))

/-! ## WRITE-SETTINGS (R88, R139, R173, R174) -/

theorem State.storeSettings_eq (s : State) (x : Settings) :
    s.storeSettings x =
      { s with
        agent := { s.agent with settings := x }
        elapsed := if x.tickPeriod = s.agent.settings.tickPeriod then s.elapsed else 0
        groups := s.groups.zipIdx.map fun (g : TripGroup × Nat) =>
          if x.latch g.2 = false ∧ g.1.state = GroupState.latched then { g.1 with state := .clear } else g.1 } := by
  unfold State.storeSettings TripGroup.underMode
  simp only [Bool.not_eq_true']

/-- Settles O27. -/
theorem writeSettingsStoresTheRecord : Obligations.WriteSettingsStoresTheRecord := by
  intro s target tag record h hlength
  have hrow : ∀ reply, performWriteSettings record s.afterHEnd = reply →
      exec (.writeSettings target tag record) s = .next (reply.state.answered tag 0x0C reply.status reply.payload) :=
    fun reply hreply => exec_mutating _ opWriteSettings target tag _ s rfl rfl h hlength rfl rfl reply hreply
  refine ⟨fun hnone => ?_, fun x hx hp hperiod => ?_, fun x hx hfree => ?_⟩
  · refine hrow (Reply.refuse .invalid s.afterHEnd) ?_
    rw [performWriteSettings, hnone]
  · refine hrow (Reply.refuse .busy s.afterHEnd) ?_
    rw [performWriteSettings, hx]
    exact if_pos ⟨hp, hperiod⟩
  · have hstore := s.afterHEnd.storeSettings_eq x
    refine (hrow ⟨.done, [], s.afterHEnd.storeSettings x⟩ ?_).trans (by rw [hstore]; rfl)
    rw [performWriteSettings, hx]
    exact if_neg fun ⟨hp, hperiod⟩ => hfree.elim (by simp [show s.commit.pending = true from hp]) hperiod

/-! ## RESET (R111, R176) -/

/-- The fields of a request reset. -/
theorem State.requestReset_eq (s : State) (hlaw : s.generationLaw) :
    s.requestReset =
      { s with
        hPort := { s.hPort with rx := s.hPort.rx.abandoned }
        fPort := { s.fPort with rx := s.fPort.rx.abandoned }
        inbound := []
        table := s.table.map fun x =>
          ⟨if x.run.waiting then x.staging else x.live, x.staging,
            { RunState.initial with generation := s.commit.generation }⟩
        commit := s.forceForReset.commit
        report := ⟨[⟨.restart, .restarted, .restarted, true, 1, s.commit.generation, none, some 2⟩], [], 0⟩
        groups := s.groups.map fun _ => ⟨[], .clear⟩
        promotion := 0
        agent := { s.agent with responses := [], recent := [], outbound := [], lastCause := .request } } := by
  obtain ⟨hgeneration, -, -⟩ := s.forceForReset_commit hlaw
  have hsame := s.forceForReset_sameSides
  have htable := s.forceForReset_clearRuns_table hlaw
  have hdue : s.forceForReset.staleDue = s.staleDue := by unfold State.forceForReset; split <;> rfl
  have helapsed : s.forceForReset.elapsed = s.elapsed := by unfold State.forceForReset; split <;> rfl
  rw [← htable, ← hgeneration, ← hdue, ← helapsed, ← hsame.power, ← hsame.rstn, ← hsame.hPort, ← hsame.fPort,
    ← s.forceForReset_map, ← s.forceForReset_groups, ← s.forceForReset_pendingQueue, ← hsame.agent]
  unfold State.requestReset
  rw [State.restart_eq]
  generalize s.forceForReset = f
  dsimp only
  rw [show placeEvent _ _ (State.report _).queue = _ from placeEvent_nil _ _]
  rfl

/-- Settles O28. -/
theorem addressedResetIsARequestReset : Obligations.AddressedResetIsARequestReset := by
  intro s target tag h hlaw
  obtain ⟨hgeneration, hpending, hdeadline⟩ := s.afterHEnd.forceForReset_commit hlaw
  have hreset := s.afterHEnd.requestReset_eq hlaw
  have hend : s.requestEnd (operationOf opReset.code) target tag opReset.code []
      = s.afterHEnd.requestReset.respond (answer tag opReset.code .done false []) :=
    (s.requestEnd_of_accepts opReset target tag opReset.code [] h rfl rfl).trans rfl
  have hexec := exec_request_eq (.reset target tag []) opReset.code target tag [] s _ rfl h.1.1 hend
  rw [hreset, State.withdrawPromotion_of_zero _ rfl] at hexec
  exact ⟨_, hexec, rfl, hgeneration, hpending, hdeadline, rfl, rfl, rfl, rfl, rfl, rfl, rfl, rfl, rfl, rfl, rfl, rfl⟩

end Sys2Proof.Machine
end

section
/-! SUPPORT. MAP-ADD, MAP-REMOVE and COMMIT. -/

namespace Sys2Proof.Machine

open Sys2Proof Relation

/-! ## What a hand-over and a switch rest on -/

/-- A claim's end, seen from the state before the claim: the groups and the settings were not touched on the way (R68). -/
theorem State.handsOver_of (s u t : State) (h : s.groups.length = 4) (hgroups : u.groups = s.groups)
    (hsettings : u.agent.settings = s.agent.settings) (ht : t.groups = u.handOver.groups) (hmap : t.map = u.map)
    (htable : t.table = u.table) : s.handsOver t := by
  have hover := u.handOver_handsOver (hgroups ▸ h)
  intro g hg
  have hafter : t.group g = u.handOver.group g := by rw [State.group, State.group, ht]
  have hbefore : u.group g = s.group g := by rw [State.group, State.group, hgroups]
  have hset : t.trippingSet g = u.handOver.trippingSet g := u.handOver.trippingSet_of_table t g hmap htable
  have hgroup := hover g hg
  rw [hsettings, hbefore] at hgroup
  rw [hafter, hset]
  exact hgroup

/-- What a switch makes of an entry rests on its pairing before and after and on whether it is watched. -/
theorem State.switchedTo_congr (s t : State) (c : Byte) (b : Bool) (i : Nat) (x y : Entry)
    (hpaired : t.pairedUpper i = s.pairedUpper i) (hstaging : (t.entry (i - 1)).staging = (s.entry (i - 1)).staging)
    (hwatched : t.watched i = s.watched i) (h : t.switchedTo c b i x y) : s.switchedTo c b i x y := by
  unfold State.switchedTo at h ⊢
  rwa [hpaired, hstaging, hwatched] at h

/-! ## Keys found after a map change (R40, R41, R42) -/

theorem find?_insertKey_of_ne (p : MapKey → Bool) (k : MapKey) (l : List MapKey) (hk : p k = false) :
    (insertKey k l).find? p = l.find? p := by
  induction l with
  | nil => simp [insertKey, hk]
  | cons x rest ih =>
    unfold insertKey
    split
    · simp [List.find?_cons, hk]
    · rw [List.find?_cons, List.find?_cons, ih]

theorem find?_insertKey_self (p : MapKey → Bool) (k : MapKey) (l : List MapKey) (hk : p k = true)
    (hl : ∀ x ∈ l, p x = false) : (insertKey k l).find? p = some k := by
  induction l with
  | nil => simp [insertKey, hk]
  | cons x rest ih =>
    unfold insertKey
    split
    · simp [hk]
    · rw [List.find?_cons, hl x List.mem_cons_self]
      exact ih fun y hy => hl y (List.mem_cons_of_mem x hy)

theorem State.lookup_congr (s t : State) (node channel : Nat) (h : t.map = s.map) :
    t.lookup node channel = s.lookup node channel := by
  rw [State.lookup, State.lookup, h]

theorem State.lookup_insertKey (s : State) (node channel e : Nat) (h : s.lookup node channel = none) :
    ({ s with map := insertKey ⟨node, channel, e⟩ s.map } : State).lookup node channel = some e
      ∧ ∀ n c, (n, c) ≠ (node, channel) →
          ({ s with map := insertKey ⟨node, channel, e⟩ s.map } : State).lookup n c = s.lookup n c := by
  refine ⟨?_, fun n c hne => ?_⟩
  · rw [State.lookup, find?_insertKey_self _ _ _ (by simp) fun x hx => ?_]
    · rfl
    · simpa using (s.lookup_eq_none_iff node channel).mp h x hx
  · rw [State.lookup, find?_insertKey_of_ne _ _ _ ?_]
    · rfl
    · simp only [Bool.and_eq_false_iff, beq_eq_false_iff_ne]
      by_contra hkey
      simp only [not_or, not_not] at hkey
      exact hne (by rw [hkey.1, hkey.2])

theorem State.lookup_withoutKey (s : State) (node channel : Nat) :
    ({ s with map := s.withoutKey node channel } : State).lookup node channel = none
      ∧ ∀ n c, (n, c) ≠ (node, channel) →
          ({ s with map := s.withoutKey node channel } : State).lookup n c = s.lookup n c := by
  refine ⟨?_, fun n c hne => ?_⟩
  · rw [State.lookup_eq_none_iff]
    intro k hk
    exact ((s.mem_withoutKey_iff node channel k).mp hk).2
  · unfold State.lookup State.withoutKey
    rw [List.find?_filter]
    refine congrArg _ (congrArg (fun p => List.find? p s.map) (funext fun k => ?_))
    by_cases hkey : k.node = n ∧ k.channel = c
    · have hother : ¬(n = node ∧ c = channel) := fun hh => hne (by rw [hh.1, hh.2])
      obtain ⟨rfl, rfl⟩ := hkey
      simp [not_and_or.mp hother]
    · have hkey' : (k.node == n && k.channel == c) = false := by simpa using hkey
      simp [hkey']

/-! ## A map change (R33, R41, R42, R108) -/

/-- A map change before its hand-over. -/
def State.mapReset (s : State) (e : Nat) : State :=
  (if (s.entry e).run.waiting then (s.switchUnit e true).completeIfEmpty else s).modifyRun e RunState.cleared

theorem State.mapChange_eq (s : State) (e : Nat) : s.mapChange e = (s.mapReset e).handOver := rfl

theorem State.completeIfEmpty_generation (s : State) : s.completeIfEmpty.commit.generation = s.commit.generation := by
  unfold State.completeIfEmpty
  split <;> simp

theorem State.mapReset_keeps (s : State) (e : Nat) :
    (s.mapReset e).map = s.map ∧ (s.mapReset e).groups = s.groups
      ∧ (s.mapReset e).commit.generation = s.commit.generation := by
  unfold State.mapReset
  split
  · exact ⟨(State.completeIfEmpty_map _).trans rfl, (State.completeIfEmpty_groups _).trans rfl,
      (State.completeIfEmpty_generation _).trans rfl⟩
  · exact ⟨rfl, rfl, rfl⟩

theorem State.mapReset_of_idle (s : State) (e : Nat) (h : (s.entry e).run.waiting = false) :
    s.mapReset e = s.modifyRun e RunState.cleared := by
  rw [State.mapReset, if_neg (by simp [h])]

/-- What every map change leaves, with the answer given: the sides of the device, generation and settings as they were, and the
groups handed the table (R68, R136). -/
theorem State.mapChange_answered (s u : State) (tag op : Byte) (e : Nat) (hu : ∃ m, u = { s.afterHEnd with map := m }) :
    let t := (u.mapChange e).answered tag op .done []
    t.map = u.map ∧ t.agent.responses = s.agent.responses ++ [answer tag op .done false []]
      ∧ t.agent.recent = (s.answered tag op .done []).agent.recent
      ∧ t.commit.generation = s.commit.generation ∧ t.agent.settings = s.agent.settings
      ∧ t.inbound = s.inbound ∧ t.fPort = s.fPort ∧ t.report.unacked = s.report.unacked
      ∧ (s.groups.length = 4 → s.handsOver t) := by
  obtain ⟨m, rfl⟩ := hu
  have hsame := State.mapChange_sameSides { s.afterHEnd with map := m } e
  obtain ⟨hm, hg, hc⟩ := State.mapReset_keeps { s.afterHEnd with map := m } e
  have hagent : (State.mapChange { s.afterHEnd with map := m } e).agent = s.agent := State.mapChange_agent _ e
  refine ⟨(State.answered_map ..).trans hm, ?_, ?_, ?_, ?_, ?_, ?_, ?_, fun hfour => ?_⟩
  · rw [State.answered_responses, hagent]
  · rw [State.answered_recent, State.answered_recent]
    unfold State.record
    rw [hagent]
  · rw [State.answered_commit]
    exact hc
  · rw [State.answered_settings, hagent]
  · rw [State.answered_inbound]
    exact hsame.inbound
  · rw [State.answered_fPort]
    exact hsame.fPort
  · rw [State.answered_report]
    exact hsame.unacked
  · exact s.handsOver_of (State.mapReset { s.afterHEnd with map := m } e) _ hfour hg
      (congrArg Agent.settings hagent) (State.answered_groups ..) (State.answered_map ..) (State.answered_table ..)

theorem mapAdd_row (s : State) (target tag node channel e : Byte) (h : s.accepts target tag [node, channel, e])
    (reply : Reply) (hreply : performMapAdd [node, channel, e] s.afterHEnd = reply) :
    exec (.mapAdd target tag [node, channel, e]) s = .next (reply.state.answered tag 0x05 reply.status reply.payload) :=
  exec_mutating _ opMapAdd target tag _ s rfl rfl h rfl rfl rfl reply hreply

theorem mapRemove_row (s : State) (target tag node channel : Byte) (h : s.accepts target tag [node, channel])
    (reply : Reply) (hreply : performMapRemove [node, channel] s.afterHEnd = reply) :
    exec (.mapRemove target tag [node, channel]) s = .next (reply.state.answered tag 0x06 reply.status reply.payload) :=
  exec_mutating _ opMapRemove target tag _ s rfl rfl h rfl rfl rfl reply hreply

/-- A MAP-ADD that none of its three conditions refuses (R41). -/
theorem mapAdd_done (s : State) (target tag node channel e : Byte) (h : s.accepts target tag [node, channel, e])
    (hnode : node.toNat < 64) (hchannel : channel.toNat < 16) (he : e.toNat < 96)
    (hkey : s.lookup node.toNat channel.toNat = none) (hentry : s.mapped e.toNat = false) :
    exec (.mapAdd target tag [node, channel, e]) s
      = .next ((({ s.afterHEnd with map := insertKey ⟨node.toNat, channel.toNat, e.toNat⟩ s.map } : State).mapChange
          e.toNat).answered tag 0x05 .done []) := by
  refine mapAdd_row s target tag node channel e h ⟨.done, [], _⟩ ?_
  have hrange : ¬(64 ≤ node.toNat ∨ 16 ≤ channel.toNat ∨ Config.entryCount ≤ e.toNat) := by
    simp only [Config.entryCount]
    omega
  refine (if_neg hrange).trans ((if_neg ?_).trans (if_neg ?_))
  · exact Option.not_isSome_iff_eq_none.mpr hkey
  · exact Bool.eq_false_iff.mp hentry

/-- A MAP-REMOVE of a key in the map (R42). -/
theorem mapRemove_done (s : State) (target tag node channel : Byte) (e : Nat) (h : s.accepts target tag [node, channel])
    (hkey : s.lookup node.toNat channel.toNat = some e) :
    exec (.mapRemove target tag [node, channel]) s
      = .next ((({ s.afterHEnd with map := s.withoutKey node.toNat channel.toNat } : State).mapChange e).answered tag
          0x06 .done []) := by
  refine mapRemove_row s target tag node channel h ⟨.done, [], _⟩ ?_
  have hkey' : s.afterHEnd.lookup (byteAt [node, channel] 0).toNat (byteAt [node, channel] 1).toNat = some e := hkey
  rw [performMapRemove]
  dsimp only
  rw [hkey']
  rfl

/-- The entry of a map change that finds it not waiting receives the run-state reset alone (R33). -/
theorem State.mapChange_of_idle (s : State) (e : Nat) (h : (s.entry e).run.waiting = false) :
    (s.mapChange e).table = s.table.modify e (fun x => { x with run := x.run.cleared })
      ∧ (s.mapChange e).commit = s.commit ∧ (s.mapChange e).report = s.report := by
  rw [State.mapChange_eq, s.mapReset_of_idle e h]
  exact ⟨rfl, rfl, rfl⟩

/-- Settles O21. -/
theorem mapAddAddsTheKey : Obligations.MapAddAddsTheKey := by
  intro s target tag node channel e h
  refine ⟨fun hrange => ?_, fun hnode hchannel he => ⟨fun hkey => ?_, fun hkey hentry => ?_, fun hkey hentry => ?_⟩⟩
  · exact mapAdd_row s target tag node channel e h (Reply.refuse .range s.afterHEnd) (if_pos hrange)
  all_goals
    have hrange : ¬(64 ≤ node.toNat ∨ 16 ≤ channel.toNat ∨ Config.entryCount ≤ e.toNat) := by
      simp only [Config.entryCount]
      omega
  · exact mapAdd_row s target tag node channel e h (Reply.refuse .duplicateKey s.afterHEnd)
      ((if_neg hrange).trans (if_pos hkey))
  · refine mapAdd_row s target tag node channel e h (Reply.refuse .claimed s.afterHEnd)
      ((if_neg hrange).trans ((if_neg ?_).trans (if_pos hentry)))
    exact Option.not_isSome_iff_eq_none.mpr hkey
  · obtain ⟨hfound, hothers⟩ := s.afterHEnd.lookup_insertKey node.toNat channel.toNat e.toNat hkey
    obtain ⟨hmap, hresponses, hrecent, hgeneration, hsettings, hinbound, hfPort, hunacked, hover⟩ :=
      s.mapChange_answered { s.afterHEnd with map := insertKey ⟨node.toNat, channel.toNat, e.toNat⟩ s.map } tag 0x05 e.toNat
        ⟨_, rfl⟩
    refine ⟨_, mapAdd_done s target tag node channel e h hnode hchannel he hkey hentry, hresponses, hrecent,
      (State.lookup_congr _ _ _ _ hmap).trans hfound, fun n c hne => (State.lookup_congr _ _ _ _ hmap).trans (hothers n c hne),
      hgeneration, hsettings, hinbound, hfPort, hunacked, hover, fun hidle => ?_⟩
    rw [State.answered_table, State.answered_commit, State.answered_report]
    exact State.mapChange_of_idle _ e.toNat hidle

/-- Settles O22. -/
theorem mapRemoveRemovesTheKey : Obligations.MapRemoveRemovesTheKey := by
  intro s target tag node channel h
  refine ⟨fun hkey => ?_, fun e hkey => ?_⟩
  · refine mapRemove_row s target tag node channel h (Reply.refuse .notFound s.afterHEnd) ?_
    have hkey' : s.afterHEnd.lookup (byteAt [node, channel] 0).toNat (byteAt [node, channel] 1).toNat = none := hkey
    rw [performMapRemove, hkey']
  · obtain ⟨hgone, hothers⟩ := s.afterHEnd.lookup_withoutKey node.toNat channel.toNat
    obtain ⟨hmap, hresponses, hrecent, hgeneration, hsettings, hinbound, hfPort, hunacked, hover⟩ :=
      s.mapChange_answered { s.afterHEnd with map := s.withoutKey node.toNat channel.toNat } tag 0x06 e ⟨_, rfl⟩
    refine ⟨_, mapRemove_done s target tag node channel e h hkey, hresponses, hrecent,
      (State.lookup_congr _ _ _ _ hmap).trans hgone, fun n c hne => (State.lookup_congr _ _ _ _ hmap).trans (hothers n c hne),
      hgeneration, hsettings, hinbound, hfPort, hunacked, hover, fun hidle => ?_⟩
    rw [State.answered_table, State.answered_commit, State.answered_report]
    exact State.mapChange_of_idle _ e hidle

/-! ## A map change to a waiting unit (R38, R102, R107, R108) -/

theorem State.mem_unit_lt (s : State) (e k : Nat) (he : e < 96) (hk : k ∈ s.unit e) : k < 96 := by
  have hle := s.unitLower_le e
  rcases (s.mem_unit_iff e k).mp hk with hl | ⟨hu, hl⟩
  · omega
  · have hodd := ((s.unitUpper_iff k).mp hu).1
    omega

/-- No entry waits after the switch of a unit exactly where no entry outside the unit waited. -/
theorem State.switchUnit_waitingCount (s : State) (e : Nat) (b : Bool) (hlength : s.table.length = 96) :
    (s.switchUnit e b).waitingCount = 0 ↔ s.waitsOnlyIn (s.unit e) := by
  have hentry : ∀ i < 96, (s.switchUnit e b).entry i
      = if (s.unit e).contains i then s.switchedEntry b i (s.entry i) else s.entry i :=
    fun i hi => s.switchEntries_entry (fun j _ => (s.unit e).contains j) b i (hlength ▸ hi)
  rw [State.waitingCount_eq_zero_iff]
  refine ⟨fun hnone i hi hw => ?_, fun honly x hx => ?_⟩
  · by_contra hout
    have hwait := hnone _ ((State.mem_table_iff _ _).mpr ⟨i, by simpa [State.switchUnit, hlength] using hi, rfl⟩)
    rw [hentry i hi, if_neg (by simpa using hout)] at hwait
    simp [hw] at hwait
  · obtain ⟨i, hi, rfl⟩ := (State.mem_table_iff _ x).mp hx
    have hi : i < 96 := by simpa [State.switchUnit, hlength] using hi
    rw [hentry i hi]
    split
    · exact s.switchedEntry_waiting b i _
    · rename_i hout
      by_contra hw
      exact hout (by simpa using honly i hi (by simpa using hw))

/-- The commit and the report unit after a map change to a waiting unit (R107, R108). -/
theorem State.mapReset_completion (s : State) (e : Nat) (hlength : s.table.length = 96)
    (hwait : (s.entry e).run.waiting = true) :
    (s.commit.pending = true → s.waitsOnlyIn (s.unit e) →
        (s.mapReset e).commit = { s.commit with pending := false, deadline := 0 }
          ∧ (s.mapReset e).report
            = { s.report with queue := placeEvent s.commit.generation s.commitDone s.report.queue })
      ∧ (s.commit.pending = false ∨ ¬s.waitsOnlyIn (s.unit e) →
          (s.mapReset e).commit = s.commit ∧ (s.mapReset e).report = s.report) := by
  have hcount := s.switchUnit_waitingCount e true hlength
  have hreset : s.mapReset e = (s.switchUnit e true).completeIfEmpty.modifyRun e RunState.cleared := by
    rw [State.mapReset, if_pos hwait]
  rw [hreset]
  refine ⟨fun hp honly => ?_, fun hstay => ?_⟩
  · have hdone : (s.switchUnit e true).completeIfEmpty = (s.switchUnit e true).completeCommit :=
      if_pos ⟨hp, hcount.mpr honly⟩
    rw [hdone, State.modifyRun_commit, State.modifyRun_report, State.completeCommit_commit]
    exact ⟨rfl, rfl⟩
  · have hopen : (s.switchUnit e true).completeIfEmpty = s.switchUnit e true :=
      if_neg fun ⟨hp, hzero⟩ => hstay.elim (fun hn => by simp [show s.commit.pending = true from hp] at hn)
        fun hn => hn (hcount.mp hzero)
    rw [hopen]
    exact ⟨rfl, rfl⟩

/-- The entries after a map change to a waiting unit: the whole unit switched out of turn, and the entry named reset (R102,
R108). -/
theorem State.mapChange_waiting_entry (s : State) (e : Nat) (hlength : s.table.length = 96) (he : e < 96)
    (hwait : (s.entry e).run.waiting = true) :
    (∀ k ∈ s.unit e, k ≠ e → (s.mapChange e).entry k = s.switchedEntry true k (s.entry k))
      ∧ (s.mapChange e).entry e
        = ⟨(s.entry e).staging, (s.entry e).staging, { RunState.initial with generation := s.commit.generation }⟩
      ∧ ∀ k, k ∉ s.unit e → (s.mapChange e).entry k = s.entry k := by
  refine ⟨fun k hk hne => ?_, ?_, fun k hk => ?_⟩
  · rw [s.mapChange_entry e k (hlength ▸ s.mem_unit_lt e k he hk)]
    simp [hwait, hk, hne]
  · obtain ⟨hgeneration, hnotWaiting⟩ := s.switchedEntry_flags true e (s.entry e)
    rw [s.mapChange_entry e e (hlength ▸ he)]
    simp only [hwait, s.mem_unit_self e, List.contains_eq_mem, decide_true, Bool.and_self, if_true, RunState.cleared,
      hgeneration, hnotWaiting, State.switchedEntry_live, State.switchedEntry_staging]
    rfl
  · have hne : k ≠ e := fun heq => hk (heq ▸ s.mem_unit_self e)
    by_cases hlt : k < 96
    · rw [s.mapChange_entry e k (hlength ▸ hlt)]
      simp [hk, hne]
    · rw [State.entry_of_le _ k (by rw [State.mapChange_length]; omega), State.entry_of_le s k (by omega)]

/-- A map change to a waiting entry, of either row: the map it leaves differs in the entry named alone (R39). -/
theorem mapChange_of_rows (s : State) (i : Instr) (target tag node channel : Byte) (e : Nat)
    (h : (i = .mapRemove target tag [node, channel] ∧ s.accepts target tag [node, channel]
        ∧ s.lookup node.toNat channel.toNat = some e)
      ∨ (∃ e8 : Byte, e8.toNat = e ∧ i = .mapAdd target tag [node, channel, e8] ∧ s.accepts target tag [node, channel, e8]
        ∧ node.toNat < 64 ∧ channel.toNat < 16 ∧ s.lookup node.toNat channel.toNat = none ∧ s.mapped e = false))
    (hmap : s.mapLaw) (he : e < 96) :
    ∃ (m : List MapKey) (op : Byte), exec i s
        = .next ((({ s.afterHEnd with map := m } : State).mapChange e).answered tag op .done [])
      ∧ ∀ k, k ≠ e → ({ s.afterHEnd with map := m } : State).mapped k = s.mapped k := by
  rcases h with ⟨rfl, haccepts, hkey⟩ | ⟨e8, rfl, rfl, haccepts, hnode, hchannel, hkey, hentry⟩
  · refine ⟨_, _, mapRemove_done s target tag node channel e haccepts hkey, fun k hk => ?_⟩
    have hmapped := s.mapped_withoutKey node.toNat channel.toNat e hmap hkey k
    exact hmapped.trans (by simp [hk])
  · refine ⟨_, _, mapAdd_done s target tag node channel e8 haccepts hnode hchannel he hkey hentry, fun k hk => ?_⟩
    rw [Bool.eq_iff_iff, State.mapped_iff, State.mapped_iff]
    simp only [mem_insertKey_iff]
    constructor
    · rintro ⟨x, rfl | hx, hxk⟩
      · exact absurd hxk.symm hk
      · exact ⟨x, hx, hxk⟩
    · rintro ⟨x, hx, hxk⟩
      exact ⟨x, .inr hx, hxk⟩

/-- Settles O23. -/
theorem mapChangeSwitchesAWaitingUnit : Obligations.MapChangeSwitchesAWaitingUnit := by
  intro s i target tag node channel e hrow hmapLaw hlength hfour he hwait
  obtain ⟨m, op, hexec, hmapped⟩ := mapChange_of_rows s i target tag node channel e hrow hmapLaw he
  obtain ⟨-, -, -, -, -, -, -, -, hover⟩ := s.mapChange_answered { s.afterHEnd with map := m } tag op e ⟨m, rfl⟩
  obtain ⟨hunit, hself, hothers⟩ := State.mapChange_waiting_entry { s.afterHEnd with map := m } e hlength he hwait
  obtain ⟨hdone, hopen⟩ := State.mapReset_completion { s.afterHEnd with map := m } e hlength hwait
  have hentry : ∀ k, ((({ s.afterHEnd with map := m } : State).mapChange e).answered tag op .done []).entry k
      = (({ s.afterHEnd with map := m } : State).mapChange e).entry k := fun k =>
    State.entry_congr _ _ k (State.answered_table ..)
  refine ⟨_, hexec, fun k hk hne => ?_, ?_, ?_, ?_, fun k hk => ?_, hover hfour, fun hp honly => ?_, fun hstay => ?_⟩
  · rw [hentry, hunit k hk hne]
    refine s.switchedTo_congr { s.afterHEnd with map := m } _ true k _ _ rfl rfl ?_
      (State.switchedEntry_switchedTo { s.afterHEnd with map := m } true k (s.entry k))
    rw [State.watched, hmapped k hne]
    rfl
  · rw [hentry, hself]
    rfl
  · rw [hentry, hself]
    rfl
  · rw [hentry, hself]
    rfl
  · rw [hentry]
    exact hothers k hk
  · rw [State.answered_commit, State.answered_report]
    exact hdone hp honly
  · rw [State.answered_commit, State.answered_report]
    exact hopen hstay

end Sys2Proof.Machine
end

section
/-! SUPPORT. COMMIT: the acceptance unit by unit, its completion and the forcing of a deadline 0. -/

namespace Sys2Proof.Machine

open Sys2Proof Relation

/-- The entries that join the waiting set of an accepted commit: those whose unit meets none of the five tests (R100). -/
def State.joins (s : State) (e : Nat) : Bool := !s.switchesAtOnce (s.unitLower e)

theorem State.joins_iff (s : State) (e : Nat) :
    s.joins e = true ↔ ¬((s.entry (s.unitLower e)).live = (s.entry (s.unitLower e)).staging
      ∨ s.mapped (s.unitLower e) = false
      ∨ ((s.entry (s.unitLower e)).live.enable = false ∧ (s.entry (s.unitLower e)).staging.enable = false)
      ∨ (s.entry (s.unitLower e)).run.condition = .idle ∨ (s.entry (s.unitLower e)).run.position = 0) := by
  simp only [State.joins, State.switchesAtOnce, Bool.not_eq_true', ← Bool.not_eq_true, Bool.or_eq_true, beq_iff_eq,
    Bool.and_eq_true, Bool.not_eq_true', or_assoc]

/-- The state on which the units of an accepted commit are tested (R99). -/
def State.raisedGeneration (s : State) : State :=
  { s with commit := { s.commit with generation := s.commit.generation + 1, forcedCount := 0 } }

theorem State.accepting_entry_of_passes (s : State) (d e : Nat) (he : e < s.table.length) (h : s.joins e = false) :
    (s.accepting d).entry e = s.raisedGeneration.switchedEntry false e (s.entry e) :=
  (s.accepting_entry d e he).trans (if_pos (by simpa [State.joins] using h))

theorem State.accepting_entry_of_joins (s : State) (d e : Nat) (he : e < s.table.length) (h : s.joins e = true) :
    (s.accepting d).entry e = { s.entry e with run := { (s.entry e).run with waiting := true } } :=
  (s.accepting_entry d e he).trans (if_neg (by simpa [State.joins] using h))

theorem State.accepting_waiting (s : State) (d e : Nat) (he : e < s.table.length) :
    ((s.accepting d).entry e).run.waiting = s.joins e := by
  cases h : s.joins e with
  | true => rw [s.accepting_entry_of_joins d e he h]
  | false =>
    rw [s.accepting_entry_of_passes d e he h]
    exact State.switchedEntry_waiting _ false e _

theorem State.accepting_waitingCount (s : State) (d : Nat) :
    (s.accepting d).waitingCount = (List.range s.table.length).countP s.joins := by
  rw [State.waitingCount_eq, State.accepting_length]
  exact List.countP_congr fun e he => by rw [s.accepting_waiting d e (List.mem_range.mp he)]

theorem State.acceptedWaiting_eq (s : State) : s.acceptedWaiting = (List.range s.table.length).countP s.joins :=
  s.accepting_waitingCount 0

/-- An entry that joins the waiting set keeps its pairing: its unit has not switched (R38). -/
theorem State.accepting_pairedUpper (s : State) (d e : Nat) (he : e < s.table.length) (h : s.joins e = true) :
    (s.accepting d).pairedUpper e = s.pairedUpper e := by
  by_cases hodd : e % 2 = 1
  · have hlive : ((s.accepting d).entry (e - 1)).live.pair = (s.entry (e - 1)).live.pair := by
      have hlower := s.unitLower_of_lower (e - 1) (s.unitUpper_of_even (e - 1) (by omega))
      cases hu : s.unitUpper e with
      | true =>
        have hjoins : s.joins (e - 1) = true := by
          rw [State.joins, hlower, ← s.unitLower_of_upper e hu]
          exact h
        rw [s.accepting_entry_of_joins d (e - 1) (by omega) hjoins]
      | false =>
        have hpairs := mt (s.unitUpper_iff e).mpr (by simp [hu])
        simp only [hodd, true_and, not_or, Bool.not_eq_true] at hpairs
        obtain ⟨hl, hs⟩ := hpairs
        rw [s.accepting_entry d (e - 1) (by omega)]
        split
        · rw [State.switchedEntry_live, hs, hl]
        · rfl
    simp only [State.pairedUpper, hlive]
  · have hodd : (e % 2 == 1) = false := by simpa using hodd
    simp [State.pairedUpper, hodd]

theorem State.accepting_staging (s : State) (d e : Nat) : ((s.accepting d).entry e).staging = (s.entry e).staging := by
  by_cases he : e < s.table.length
  · rw [s.accepting_entry d e he]
    split <;> rfl
  · rw [State.entry_of_le _ e (by rw [State.accepting_length]; omega), State.entry_of_le s e (by omega)]

theorem State.accepting_watched (s : State) (d e : Nat) (he : e < s.table.length) (h : s.joins e = true) :
    (s.accepting d).watched e = s.watched e := by
  rw [State.watched, State.watched, s.accepting_pairedUpper d e he h, s.accepting_entry_of_joins d e he h]
  rfl

/-- A unit that a deadline of 0 forces at once switches as it would have from the state before the acceptance (R99, R106). -/
theorem State.accepting_forced (s : State) (d e : Nat) (he : e < s.table.length) (h : s.joins e = true) :
    s.switchedTo (s.commit.generation + 1) true e (s.entry e) ((s.accepting d).forceWaiting.entry e) := by
  have hwait : ((s.accepting d).entry e).run.waiting = true := by rw [s.accepting_waiting d e he, h]
  rw [State.forceWaiting_entry _ e (by rwa [State.accepting_length]), if_pos hwait, s.accepting_entry_of_joins d e he h]
  exact s.switchedTo_congr (s.accepting d) _ true e _ _ (s.accepting_pairedUpper d e he h) (s.accepting_staging d (e - 1))
    (s.accepting_watched d e he h) (State.switchedEntry_switchedTo (s.accepting d) true e _)

/-- An accepted commit before its hand-over. -/
def State.accepted (s : State) (d : Nat) : State :=
  if (s.accepting d).waitingCount = 0 then (s.accepting d).completeCommit
  else if d = 0 then (s.accepting d).forceWaiting.completeCommit
  else s.accepting d

theorem State.accepted_works (s : State) (d : Nat) (h : s.commit.pending = false) : Works s (s.accepted d) := by
  refine .trans (.single (.accept s d h)) ?_
  unfold State.accepted
  split_ifs with hw
  · exact State.completeCommit_works _ ((State.waitingCount_eq_zero_iff _).mp hw)
  · exact State.forceComplete_works _
  · exact .refl

theorem State.accepted_map (s : State) (d : Nat) : (s.accepted d).map = s.map := by
  unfold State.accepted
  split_ifs
  · exact (State.completeCommit_map _).trans rfl
  · exact (State.completeCommit_map _).trans rfl
  · rfl

/-- Where no unit joins the waiting set, the commit completes at once with forced count 0 (R107). -/
theorem State.accepted_of_none (s : State) (d : Nat) (h : (s.accepting d).waitingCount = 0) :
    (s.accepted d).table = (s.accepting d).table ∧ (s.accepted d).commit = ⟨s.commit.generation + 1, false, 0, 0⟩
      ∧ (s.accepted d).report.queue = placeEvent (s.commit.generation + 1)
          ⟨.commit, .commitDone, .routine, s.commit.generation + 1, none, some 0⟩ s.report.queue := by
  rw [State.accepted, if_pos h, State.completeCommit_table, State.completeCommit_commit, State.completeCommit_queue]
  exact ⟨rfl, rfl, rfl⟩

/-- A deadline of 0 forces the waiting units at once and completes the commit with their number (R99, R106, R107). -/
theorem State.accepted_of_zero (s : State) (h : (s.accepting 0).waitingCount ≠ 0) :
    (s.accepted 0).table = (s.accepting 0).forceWaiting.table
      ∧ (s.accepted 0).commit = ⟨s.commit.generation + 1, false, 0, (s.accepting 0).waitingCount⟩
      ∧ (s.accepted 0).report.queue = placeEvent (s.commit.generation + 1)
          ⟨.commit, .commitDone, .routine, s.commit.generation + 1, none, some (s.accepting 0).waitingCount⟩
          s.report.queue := by
  rw [State.accepted, if_neg h, if_pos rfl, State.completeCommit_table, State.completeCommit_commit,
    State.completeCommit_queue]
  exact ⟨rfl, rfl, rfl⟩

/-- The entries of an accepted commit, by whether their unit passes a test (R99, R100, R102). -/
theorem State.accepted_entry (s : State) (d e : Nat) (he : e < s.table.length) :
    (s.joins e = false → s.switchedTo (s.commit.generation + 1) false e (s.entry e) ((s.accepted d).entry e))
      ∧ (s.joins e = true → d = 0 → s.switchedTo (s.commit.generation + 1) true e (s.entry e) ((s.accepted d).entry e))
      ∧ (s.joins e = true → d ≠ 0 →
          (s.accepted d).entry e = { s.entry e with run := { (s.entry e).run with waiting := true } }) := by
  have hpasses : s.joins e = false →
      s.switchedTo (s.commit.generation + 1) false e (s.entry e) ((s.accepting d).entry e) := fun hj => by
    rw [s.accepting_entry_of_passes d e he hj]
    exact State.switchedEntry_switchedTo s.raisedGeneration false e (s.entry e)
  have hsome : s.joins e = true → (s.accepting d).waitingCount ≠ 0 := fun hj hzero => by
    have hwait := (State.waitingCount_eq_zero_iff _).mp hzero _
      ((State.mem_table_iff _ _).mpr ⟨e, by rwa [State.accepting_length], rfl⟩)
    rw [s.accepting_waiting d e he, hj] at hwait
    cases hwait
  refine ⟨fun hj => ?_, fun hj hd => ?_, fun hj hd => ?_⟩
  · by_cases hzero : (s.accepting d).waitingCount = 0
    · obtain ⟨htable, -⟩ := s.accepted_of_none d hzero
      rw [State.entry_congr _ _ e htable]
      exact hpasses hj
    · by_cases hd : d = 0
      · subst hd
        obtain ⟨htable, -⟩ := s.accepted_of_zero hzero
        rw [State.entry_congr _ _ e htable, State.forceWaiting_entry _ e (by rwa [State.accepting_length]),
          if_neg (by rw [s.accepting_waiting 0 e he, hj]; decide)]
        exact hpasses hj
      · rw [State.accepted, if_neg hzero, if_neg hd]
        exact hpasses hj
  · subst hd
    obtain ⟨htable, -⟩ := s.accepted_of_zero (hsome hj)
    rw [State.entry_congr _ _ e htable]
    exact s.accepting_forced 0 e he hj
  · rw [State.accepted, if_neg (hsome hj), if_neg hd]
    exact s.accepting_entry_of_joins d e he hj

theorem halfOf_toNat (hi lo : Byte) : (halfOf hi lo).toNat = 256 * hi.toNat + lo.toNat := by
  rw [halfOf, BitVec.toNat_append, Nat.shiftLeft_eq, ← Nat.shiftLeft_eq, ← Nat.shiftLeft_add_eq_or_of_lt lo.isLt,
    Nat.shiftLeft_eq]
  omega

/-- Settles O24. -/
theorem commitAcceptsAGeneration : Obligations.CommitAcceptsAGeneration := by
  refine ⟨fun s target tag d1 d0 h hpending => ?_, fun s target tag d1 d0 h hidle hlength hfour hwaiting => ?_⟩
  · exact exec_mutating _ opCommit target tag _ s rfl rfl h rfl rfl rfl (Reply.refuse .busy s.afterHEnd) (if_pos hpending)
  intro d passes waits
  have hd : (halfOf d1 d0).toNat = d := halfOf_toNat d1 d0
  have hpasses : ∀ e, s.joins e = true ↔ ¬passes (s.unitLower e) := s.joins_iff
  have hpasses' : ∀ e, s.joins e = false ↔ passes (s.unitLower e) := fun e => by
    rw [← Bool.not_eq_true, hpasses, not_not]
  have hwaits : (List.range s.table.length).countP s.joins = waits := by
    rw [hlength]
    exact List.countP_congr fun e _ => by rw [hpasses, decide_eq_true_eq]
  have hcount : (s.afterHEnd.accepting d).waitingCount = waits := (s.afterHEnd.accepting_waitingCount d).trans hwaits
  have hworks := s.afterHEnd.accepted_works d hidle
  have hentry := fun e (he : e < 96) => s.afterHEnd.accepted_entry d e (hlength ▸ he)
  have hexec : exec (.commit target tag [d1, d0]) s
      = .next ((s.afterHEnd.accepted d).handOver.answered tag 0x08 .accepted [BitVec.ofNat 8 waits]) :=
    exec_mutating _ opCommit target tag [d1, d0] s rfl rfl h rfl rfl rfl
    ⟨.accepted, [BitVec.ofNat 8 waits], (s.afterHEnd.accepted d).handOver⟩ (by
      rw [← hwaits, ← hd]
      exact (if_neg (by simp [hidle])).trans (by rw [← State.acceptedWaiting_eq]; rfl))
  have hagent : (s.afterHEnd.accepted d).agent = s.agent := hworks.sameSides.agent
  have hgeneration : (s.afterHEnd.accepted d).commit.generation = s.commit.generation + 1 := by
    unfold State.accepted
    split_ifs
    · rw [State.completeCommit_commit]
      rfl
    · rw [State.completeCommit_commit]
      rfl
    · rfl
  have hkept : ∀ e, (((s.afterHEnd.accepted d).handOver).answered tag 0x08 .accepted [BitVec.ofNat 8 waits]).entry e
      = (s.afterHEnd.accepted d).entry e := fun e => State.entry_congr _ _ e (State.answered_table ..)
  refine ⟨_, hexec, ?_, ?_, ?_, fun e he hp => ?_, fun e he hp hzero => ?_, fun e he hp hnonzero => ?_, fun hnow => ?_,
    fun hsome hlater => ?_, ?_, ?_, ?_, ?_⟩
  · rw [State.answered_commit]
    exact hgeneration
  · rw [State.answered_responses]
    exact congrArg (fun a : Agent => a.responses ++ _) hagent
  · rw [State.answered_recent, State.answered_recent]
    unfold State.record
    simp only [State.handOver_agent, hagent]
  · obtain ⟨hswitch, -⟩ := hentry e he
    rw [hkept]
    exact hswitch ((hpasses' e).mpr hp)
  · obtain ⟨-, hforced, -⟩ := hentry e he
    rw [hkept]
    exact hforced ((hpasses e).mpr hp) hzero
  · obtain ⟨-, -, hjoins⟩ := hentry e he
    rw [hkept]
    exact hjoins ((hpasses e).mpr hp) hnonzero
  · rw [State.answered_commit, State.answered_report]
    by_cases hzero : waits = 0
    · obtain ⟨-, hcommit, hqueue⟩ := s.afterHEnd.accepted_of_none d (hcount.trans hzero)
      rw [hzero]
      refine ⟨?_, ?_, ?_, hqueue⟩ <;> rw [State.handOver_commit, hcommit]
    · have hd0 : d = 0 := hnow.resolve_left hzero
      rw [hd0] at hcount ⊢
      obtain ⟨-, hcommit, hqueue⟩ := s.afterHEnd.accepted_of_zero (by rwa [hcount])
      rw [hcount] at hcommit hqueue
      refine ⟨?_, ?_, ?_, hqueue⟩ <;> rw [State.handOver_commit, hcommit]
  · rw [State.answered_commit, State.answered_report, State.handOver_commit, State.handOver_report, State.accepted,
      if_neg (by rwa [hcount]), if_neg hlater]
    exact ⟨rfl, rfl, rfl, rfl⟩
  · exact s.handsOver_of (s.afterHEnd.accepted d) _ hfour hworks.groups (congrArg Agent.settings hagent)
      (State.answered_groups ..) (State.answered_map ..) (State.answered_table ..)
  · rw [State.answered_map]
    exact s.afterHEnd.accepted_map d
  · rw [State.answered_inbound]
    exact hworks.sameSides.inbound
  · rw [State.answered_settings]
    exact congrArg Agent.settings hagent

end Sys2Proof.Machine
end

section
/-! SUPPORT. The arbiter's grants and the completions of a transmission (chapter 10, section 1.5). -/

namespace Sys2Proof.Machine

open Sys2Proof Relation

/-! ## The withdrawal of the promotion (R147) -/

theorem State.withdrawPromotion_promotion (s : State) :
    s.withdrawPromotion.promotion = if s.routineClaim then s.promotion else 0 := by
  unfold State.withdrawPromotion
  split_ifs <;> rfl

/-- The ROUTINE claim rests on the address and the report unit alone (R123). -/
theorem State.routineClaim_congr {s t : State} (haddress : t.agent.address = s.agent.address) (hreport : t.report = s.report) :
    t.routineClaim = s.routineClaim := by
  simp [State.routineClaim, haddress, hreport]

@[simp] theorem State.withdrawPromotion_routineClaim (s : State) : s.withdrawPromotion.routineClaim = s.routineClaim :=
  State.routineClaim_congr (by simp) (by simp)

/-! ## What a grant sends (R145, R148) -/

theorem exec_grant (s t : State) (h : s.tickDone = true) (ht : s.grant = t) : exec .grant s = .next t.withdrawPromotion :=
  takeClaim_eq State.grant s t h ht

theorem State.grant_of_not_possible (s : State) (h : s.grantPossible = false) : s.grant = s := by
  simp [State.grant, h]

theorem State.grant_of_none (s : State) (h : s.choice = none) : s.grant = s := by
  unfold State.grant
  rw [h, ite_id]

theorem State.grant_of_choice (s : State) (k : ClaimKind) (hp : s.grantPossible = true) (h : s.choice = some k) :
    s.grant = s.serve k := by
  simp [State.grant, hp, h]

/-- A transmitter is idle when it holds no frame and has sent its gap and the run of 32 it owes (R1, R145). -/
theorem TxSide.isIdle_iff (t : TxSide) :
    t.isIdle = true ↔ t.frame = none ∧ t.gapLeft = 0 ∧ (t.longGap = 16 → 32 ≤ t.idleRun) := by
  simp only [TxSide.isIdle, TxSide.gapRemaining, Bool.and_eq_true, Option.isNone_iff_eq_none, beq_iff_eq]
  refine and_congr_right fun _ => ?_
  by_cases hlong : t.longGap = 16
  · rw [if_pos hlong, Nat.max_eq_zero_iff]
    simp only [hlong, true_implies]
    exact and_congr_right fun _ => Nat.sub_eq_zero_iff_le
  · rw [if_neg hlong]
    simp [hlong]

theorem State.grantPossible_of_unmet (s : State)
    (h : s.running = false ∨ s.hPort.tx.frame ≠ none ∨ s.hPort.tx.gapLeft ≠ 0
      ∨ (s.hPort.tx.longGap = 16 ∧ s.hPort.tx.idleRun < 32) ∨ s.hPort.rx.state ≠ .up) : s.grantPossible = false := by
  rw [Bool.eq_false_iff, Ne, State.grantPossible_iff, TxSide.isIdle_iff]
  rintro ⟨hrun, ⟨hframe, hgap, hlong⟩, hup⟩
  rcases h with h | h | h | ⟨h16, h32⟩ | h
  · simp [hrun] at h
  · exact h hframe
  · exact h hgap
  · exact absurd (hlong h16) (by omega)
  · exact h hup

/-- A transit grant as the state it leaves (R82). -/
theorem State.serve_transit (s : State) (f : InboundFrame) (rest : List InboundFrame) (h : s.inbound = f :: rest) :
    s.serve .transit =
      { s with
        promotion := s.promoted .transit
        inbound := ⟨.inTransmission, f.bytes⟩ :: rest
        hPort := { s.hPort with tx := s.hPort.tx.startFrame f.bytes .transit } } := by
  simp [State.serve, State.sendTransit, h, State.sendHead, State.setTx]

/-- A response grant as the state it leaves (R148). -/
theorem State.serve_response (s : State) (r : Response) (rest : List Response) (h : s.agent.responses = r :: rest) :
    s.serve .response =
      { s with
        promotion := s.promoted .response
        agent := { s.agent with responses := { r with granted := true } :: rest }
        hPort := { s.hPort with
          tx := s.hPort.tx.startFrame (r.bytes (r.address.getD s.stageAddress)) .response } } := by
  simp [State.serve, State.sendResponse, h, State.sendHead, State.setTx, State.stageAddress]

/-- The promotion counter after a grant to response or transit, neither of which touches the ROUTINE claim (R147). -/
theorem State.promotion_after_queued (s t : State) (k : ClaimKind) (hk : k = .response ∨ k = .transit)
    (haddress : t.agent.address = s.agent.address) (hreport : t.report = s.report) (hp : t.promotion = s.promoted k) :
    t.withdrawPromotion.promotion = if s.routineClaim then s.promotion + 1 else 0 := by
  have hpromoted : s.promoted k = if s.routineClaim then s.promotion + 1 else 0 := by
    rcases hk with rfl | rfl <;> rfl
  rw [State.withdrawPromotion_promotion, State.routineClaim_congr haddress hreport, hp, hpromoted]
  split_ifs <;> rfl

/-- Settles O45. -/
theorem grantSendsTransitOrResponse : Obligations.GrantSendsTransitOrResponse := by
  refine ⟨fun s f rest hdone hp hk hin => ?_, fun s r rest a hdone hp hk hresp ha => ?_⟩
  · refine ⟨_, exec_grant s _ hdone ((s.grant_of_choice _ hp hk).trans (s.serve_transit f rest hin)), ?_⟩
    have hserve := s.serve_transit f rest hin
    have hpromotion := s.promotion_after_queued (s.serve .transit) .transit (.inr rfl) (by rw [hserve]) (by rw [hserve])
      (by rw [hserve])
    rw [hserve] at hpromotion
    rw [hpromotion]
    simp [TxSide.startFrame]
  · refine ⟨_, exec_grant s _ hdone ((s.grant_of_choice _ hp hk).trans (s.serve_response r rest hresp)), ?_⟩
    have hserve := s.serve_response r rest hresp
    have hpromotion := s.promotion_after_queued (s.serve .response) .response (.inl rfl) (by rw [hserve]) (by rw [hserve])
      (by rw [hserve])
    rw [hserve] at hpromotion
    rw [hpromotion]
    simp [TxSide.startFrame, State.stageAddress, ha]

/-- An UNASSIGNED stage has no claim that sends an address (R123, R144). -/
theorem State.choice_of_unassigned (s : State) (k : ClaimKind) (haddress : s.agent.address = none)
    (h : s.choice = some k) : k = .transit := by
  have hpresent := s.choice_present k h
  cases k with
  | transit => rfl
  | urgent => exact absurd haddress (s.urgentClaim_iff.mp hpresent).1
  | response => exact absurd haddress (s.responseClaim_iff.mp hpresent).2
  | routine => exact absurd haddress (s.routineClaim_iff.mp hpresent).1

/-- Settles O44: without its conditions a grant is the state it finds; of an UNASSIGNED stage only transit is granted. -/
theorem grantNeedsItsConditions : Obligations.GrantNeedsItsConditions := by
  refine ⟨fun s hdone hunmet => exec_grant s s hdone ?_, fun s t x hdone haddress hframe hstep hx => ?_⟩
  · by_cases hnone : s.choice = none
    · exact s.grant_of_none hnone
    · refine s.grant_of_not_possible (s.grantPossible_of_unmet ?_)
      rcases hunmet with h | h | h | h | h | h
      · exact .inl h
      · exact .inr (.inl h)
      · exact .inr (.inr (.inl h))
      · exact .inr (.inr (.inr (.inl h)))
      · exact .inr (.inr (.inr (.inr h)))
      · exact absurd h hnone
  · rw [exec_grant s _ hdone rfl] at hstep
    obtain rfl := Host.Outcome.next.inj hstep
    rw [State.withdrawPromotion_hPort] at hx
    cases hp : s.grantPossible with
    | false =>
      rw [s.grant_of_not_possible hp, hframe] at hx
      cases hx
    | true =>
      cases hk : s.choice with
      | none =>
        rw [s.grant_of_none hk, hframe] at hx
        cases hx
      | some k =>
        obtain rfl := s.choice_of_unassigned k haddress hk
        obtain ⟨f, rest, hin, -⟩ := s.transitClaim_iff.mp (s.choice_present _ hk)
        rw [s.grant_of_choice _ hp hk, s.serve_transit f rest hin] at hx
        obtain rfl := Option.some.inj hx
        rfl

/-! ## Report claims (Table 53) -/

/-- The class of a frame that a report claim takes, and the records it takes. -/
def ClaimKind.ofClass (k : ClaimKind) (f : ReportFrame) : Bool := f.urgent == (k == .urgent)

def ClaimKind.may (k : ClaimKind) (r : ReportRecord) : Bool := k == .routine || r.urgent

theorem State.serve_report (s : State) (k : ClaimKind) (hk : k = .urgent ∨ k = .routine) :
    s.serve k = { s with promotion := s.promoted k }.sendReport k.ofClass k.may := by
  rcases hk with rfl | rfl
  · have hclass : ClaimKind.ofClass .urgent = fun f => f.urgent := by funext f; simp [ClaimKind.ofClass]
    have hmay : ClaimKind.may .urgent = fun r => r.urgent := by funext r; simp [ClaimKind.may]
    rw [hclass, hmay]
    rfl
  · have hclass : ClaimKind.ofClass .routine = fun f => !f.urgent := by 
      funext f
      cases h : f.urgent <;> simp [ClaimKind.ofClass, h]
    have hmay : ClaimKind.may .routine = fun _ => true := by funext r; simp [ClaimKind.may]
    rw [hclass, hmay]
    rfl

theorem State.sendReport_new (s : State) (ofClass : ReportFrame → Bool) (p : ReportRecord → Bool)
    (h : ∀ f ∈ s.report.unacked, f.due = true → ofClass f = false) : s.sendReport ofClass p = s.formReport p := by
  have hnone : s.report.unacked.find? (fun f => f.due && ofClass f) = none := by
    simpa [List.find?_eq_none] using h
  rw [State.sendReport, hnone]

theorem State.sendReport_again (s : State) (ofClass : ReportFrame → Bool) (p : ReportRecord → Bool)
    (older newer : List ReportFrame) (f : ReportFrame) (hlist : s.report.unacked = older ++ f :: newer)
    (hdue : f.due = true) (hclass : ofClass f = true) (holder : ∀ x ∈ older, x.due = true → ofClass x = false) :
    s.sendReport ofClass p = s.retransmit f := by
  have hfind : s.report.unacked.find? (fun f => f.due && ofClass f) = some f := by
    rw [hlist, List.find?_append, List.find?_eq_none.mpr (by simpa using holder)]
    simp [hdue, hclass]
  rw [State.sendReport, hfind]

/-- What a report claim that is granted finds: a due frame of its class, or a record it may take (R123). -/
theorem State.report_source (s : State) (k : ClaimKind) (hk : k = .urgent ∨ k = .routine) (hchoice : s.choice = some k) :
    (∃ f ∈ s.report.unacked, f.due = true ∧ f.urgent = (k == .urgent)) ∨ ∃ r ∈ s.report.queue, k.may r = true := by
  have hpresent := s.choice_present k hchoice
  rcases hk with rfl | rfl
  · obtain ⟨-, ⟨f, hf, hdue, hurgent⟩ | ⟨-, r, hr, hurgent⟩⟩ := s.urgentClaim_iff.mp hpresent
    · exact .inl ⟨f, hf, hdue, f.urgent_iff.mpr hurgent⟩
    · exact .inr ⟨r, hr, by simp [ClaimKind.may, hurgent]⟩
  · obtain ⟨-, ⟨f, hf, hdue, hroutine⟩ | ⟨-, hne⟩⟩ := s.routineClaim_iff.mp hpresent
    · exact .inl ⟨f, hf, hdue, f.not_urgent_iff.mpr hroutine⟩
    · obtain ⟨r, hr⟩ := List.exists_mem_of_ne_nil _ hne
      exact .inr ⟨r, hr, rfl⟩

/-- The promotion counter after the grant of a report claim (R147). -/
theorem State.promotion_after_report (s t : State) (k : ClaimKind) (hp : t.promotion = s.promoted k) :
    (k = .routine → t.withdrawPromotion.promotion = 0)
      ∧ (k = .urgent → t.withdrawPromotion.promotion = if t.withdrawPromotion.routineClaim then s.promotion else 0) := by
  rw [State.withdrawPromotion_promotion, State.withdrawPromotion_routineClaim, hp]
  constructor
  · rintro rfl
    exact ite_id _
  · rintro rfl
    rfl

/-- Sending a frame again changes the one frame of its sequence (R127). -/
theorem again_eq (older newer : List ReportFrame) (f : ReportFrame) (again : ReportFrame → ReportFrame)
    (hsame : ∀ x, x.sequence ≠ f.sequence → again x = x) (hdistinct : ∀ x ∈ older ++ newer, x.sequence ≠ f.sequence) :
    (older ++ f :: newer).map again = older ++ again f :: newer := by
  have hfix : ∀ xs : List ReportFrame, (∀ x ∈ xs, x ∈ older ++ newer) → xs.map again = xs := fun xs hxs =>
    (List.map_congr_left fun x hx => hsame x (hdistinct x (hxs x hx))).trans (List.map_id xs)
  rw [List.map_append, List.map_cons, hfix older (by simp +contextual), hfix newer (by simp +contextual)]

/-- Settles O46: with no due frame of the class a new frame is formed of `takeRecords`, otherwise the first due one of its
class goes out again. -/
theorem grantSendsReports : Obligations.GrantSendsReports := by
  refine ⟨fun s a k hdone hp hchoice hk ha hnone => ?_,
    fun s a k older newer f hdone hp hchoice hk ha hlist hdue hclass holder hdistinct => ?_⟩
  · obtain ⟨htaken, hdrop, hothers, hsub⟩ := takeRecords_spec k.may 4 s.report.queue
    have hpos : 1 ≤ (takeRecords k.may 4 s.report.queue).1.length := by
      rcases s.report_source k hk hchoice with ⟨f, hf, hdue, hclass⟩ | ⟨r, hr, hmay⟩
      · exact absurd hclass (hnone f hf hdue)
      · exact (takeRecords_length k.may 4 s.report.queue (List.any_eq_true.mpr ⟨r, hr, hmay⟩) (by decide)).1
    have hserve := (s.grant_of_choice k hp hchoice).trans ((s.serve_report k hk).trans
      (State.sendReport_new _ _ k.may fun f hf hdue => by simpa [ClaimKind.ofClass] using hnone f hf hdue))
    have hpromotion := s.promotion_after_report _ k (rfl : ({ s with promotion := s.promoted k }.formReport k.may).promotion = _)
    refine ⟨_, exec_grant s _ hdone hserve, ?_⟩
    obtain ⟨hroutine, hurgent⟩ := hpromotion
    refine ⟨htaken ▸ hpos, ?_, ?_, ?_, ?_, ?_, ?_, hroutine, hurgent, ?_⟩
    all_goals simp only [State.withdrawPromotion_report, State.withdrawPromotion_hPort, State.withdrawPromotion_inbound,
      State.withdrawPromotion_agent, State.withdrawPromotion_table, State.withdrawPromotion_commit,
      State.withdrawPromotion_map]
    · exact congrArg (fun x => s.report.unacked ++ [ReportFrame.mk s.report.nextSequence x 1 0 false false]) htaken
    · rfl
    · exact hothers
    · exact hdrop
    · exact hsub
    · have haddress : s.stageAddress = a := by simp [State.stageAddress, ha]
      rw [← haddress]
      exact congrArg (fun xs => some (Sending.mk (reportFrameBytes s.stageAddress s.report.nextSequence xs)
        (.report s.report.nextSequence) 0)) htaken
    · exact ⟨rfl, rfl, rfl, rfl, rfl⟩
  · have hserve := (s.grant_of_choice k hp hchoice).trans ((s.serve_report k hk).trans
      (State.sendReport_again _ _ k.may older newer f hlist hdue (by simpa [ClaimKind.ofClass] using hclass)
        fun x hx hxdue => by simpa [ClaimKind.ofClass] using holder x hx hxdue))
    obtain ⟨hroutine, hurgent⟩ := s.promotion_after_report _ k (rfl : ({ s with promotion := s.promoted k }.retransmit f).promotion = _)
    refine ⟨_, exec_grant s _ hdone hserve, ?_, ?_, ?_, ?_, hroutine, hurgent, ?_⟩
    all_goals simp only [State.withdrawPromotion_report, State.withdrawPromotion_hPort, State.withdrawPromotion_inbound,
      State.withdrawPromotion_agent, State.withdrawPromotion_table, State.withdrawPromotion_commit,
      State.withdrawPromotion_map]
    · show List.map _ s.report.unacked = _
      rw [hlist, again_eq older newer f _ (fun x hx => by simp [hx]) hdistinct]
      simp
    · rfl
    · rfl
    · show some _ = some _
      simp [State.stageAddress, ha]
    · exact ⟨rfl, rfl, rfl, rfl, rfl⟩

/-! ## Starts and completions (R13, R14, R15) -/

theorem State.fieldStart_of_idle (s : State) (f : OutboundFrame) (rest : List OutboundFrame) (hrun : s.running = true)
    (hidle : s.fPort.tx.isIdle = true) (h : s.agent.outbound = f :: rest) :
    s.fieldStart =
      { s with
        agent := { s.agent with outbound := { f with taken := true } :: rest }
        fPort := { s.fPort with tx := s.fPort.tx.startFrame f.bytes .outbound } } := by
  simp [State.fieldStart, hrun, hidle, h, State.setTx]

theorem State.headComplete_of_frame (s : State) (x : Sending) (h : s.hPort.tx.frame = some x) :
    s.headComplete = { s.releaseHead x.source with hPort := { s.hPort with tx := s.hPort.tx.endFrame } } := by
  simp [State.headComplete, h, State.setTx, s.releaseHead_hPort]

/-- The release of a sent frame touches the inbound queue and the response queue alone (R13). -/
theorem State.releaseHead_eq (s : State) (source : Supplier) :
    s.releaseHead source =
      { s with
        inbound := (s.releaseHead source).inbound
        agent := { s.agent with responses := (s.releaseHead source).agent.responses } } := by
  unfold State.releaseHead
  split
  · split
    · split_ifs <;> rfl
    · rfl
  · split
    · split_ifs <;> rfl
    · rfl
  · rfl
  · rfl

/-- What the owner of the outbound queue releases at the END of its frame (R14, R15). -/
def State.releaseField (s : State) : List OutboundFrame :=
  match s.agent.outbound with
  | f :: rest => if f.taken then rest else f :: rest
  | [] => []

theorem State.fieldComplete_of_frame (s : State) (x : Sending) (h : s.fPort.tx.frame = some x) :
    s.fieldComplete =
      { s with
        agent := { s.agent with outbound := s.releaseField }
        fPort := { s.fPort with tx := s.fPort.tx.endFrame } } := by
  unfold State.fieldComplete State.releaseField
  rw [h]
  cases hout : s.agent.outbound with
  | nil =>
    show State.setTx s .f _ = { s with agent := { s.agent with outbound := [] }, fPort := _ }
    rw [← hout]
    rfl
  | cons f rest =>
    cases htaken : f.taken with
    | true => simp [htaken, State.setTx]
    | false =>
      simp only [htaken, Bool.false_eq_true, if_false]
      rw [← hout]
      rfl

theorem State.hTransmissionComplete_releases (s : State) (x : Sending) :
    (∀ f rest, s.inbound = f :: rest → x.source = .transit → f.state = .inTransmission →
        (s.releaseHead x.source).inbound = rest ∧ (s.releaseHead x.source).agent = s.agent)
      ∧ (∀ r rest, s.agent.responses = r :: rest → x.source = .response → r.granted = true →
        (s.releaseHead x.source).agent = { s.agent with responses := rest }
          ∧ (s.releaseHead x.source).inbound = s.inbound)
      ∧ ((∃ n, x.source = .report n) ∨ (x.source = .transit ∧ ∀ f ∈ s.inbound.head?, f.state ≠ .inTransmission)
          ∨ (x.source = .response ∧ ∀ r ∈ s.agent.responses.head?, r.granted = false) →
        s.releaseHead x.source = s) := by
  refine ⟨fun f rest hin hx hstate => ?_, fun r rest hresp hx hgranted => ?_, ?_⟩
  · simp [hx, State.releaseHead, hin, hstate]
  · simp [hx, State.releaseHead, hresp, hgranted]
  · rintro (⟨n, hx⟩ | ⟨hx, hhead⟩ | ⟨hx, hhead⟩)
    · rw [hx]; rfl
    · rw [hx]
      cases hin : s.inbound with
      | nil => simp [State.releaseHead, hin]
      | cons f rest => simp [State.releaseHead, hin, hhead f (by simp [hin])]
    · rw [hx]
      cases hresp : s.agent.responses with
      | nil => simp [State.releaseHead, hresp]
      | cons r rest => simp [State.releaseHead, hresp, hhead r (by simp [hresp])]

/-- Settles O47. -/
theorem transmissionsStartAndComplete : Obligations.TransmissionsStartAndComplete := by
  refine ⟨fun s x hdone hx => ?_, fun s f rest hdone hrun hframe hout => ⟨fun hgap hlong => ?_, fun hgap => ?_⟩,
    fun s x hdone hx => ?_⟩
  · refine ⟨_, takeClaim_eq State.headComplete s _ hdone (s.headComplete_of_frame x hx), ?_⟩
    obtain ⟨htransit, hresponse, hkept⟩ := s.hTransmissionComplete_releases x
    simp only [State.withdrawPromotion_hPort, State.withdrawPromotion_fPort, State.withdrawPromotion_table,
      State.withdrawPromotion_map, State.withdrawPromotion_commit, State.withdrawPromotion_report,
      State.withdrawPromotion_agent, State.withdrawPromotion_inbound]
    refine ⟨rfl, ?_, ?_, ?_, ?_, ?_, ?_, ?_, ?_, htransit, hresponse, fun h => ?_⟩
    · rw [s.releaseHead_eq]
    · rw [s.releaseHead_eq]
    · rw [s.releaseHead_eq]
    · rw [s.releaseHead_eq]
    · rw [s.releaseHead_eq]
    · rw [s.releaseHead_eq]
    · rw [s.releaseHead_eq]
    · rw [s.releaseHead_eq]
    · rw [hkept h]
      exact ⟨rfl, rfl⟩
  · have hidle : s.fPort.tx.isIdle = true := (TxSide.isIdle_iff _).mpr ⟨hframe, hgap, fun h16 =>
      hlong.resolve_left (fun h => h h16)⟩
    refine ⟨_, takeClaim_eq State.fieldStart s _ hdone (s.fieldStart_of_idle f rest hrun hidle hout), ?_⟩
    simp [TxSide.startFrame, Config.idleRunLength]
  · have hbusy : s.fPort.tx.isIdle = false := by
      rw [Bool.eq_false_iff, Ne, TxSide.isIdle_iff]
      rintro ⟨-, hzero, hrun32⟩
      rcases hgap with h | ⟨h16, h32⟩
      · exact h hzero
      · exact absurd (hrun32 h16) (by omega)
    exact takeClaim_eq State.fieldStart s s hdone (by simp [State.fieldStart, hbusy])
  · refine ⟨_, takeClaim_eq State.fieldComplete s _ hdone (s.fieldComplete_of_frame x hx), ?_⟩
    simp only [State.withdrawPromotion_hPort, State.withdrawPromotion_fPort, State.withdrawPromotion_table,
      State.withdrawPromotion_commit, State.withdrawPromotion_report,
      State.withdrawPromotion_agent, State.withdrawPromotion_inbound]
    refine ⟨rfl, trivial, trivial, trivial, trivial, trivial, fun f rest hout htaken => ?_, fun hkept => ?_⟩
    · simp [State.releaseField, hout, htaken]
    · have hsame : s.releaseField = s.agent.outbound := by
        unfold State.releaseField
        cases hout : s.agent.outbound with
        | nil => rfl
        | cons f rest => simp [hkept f (by simp [hout])]
      rw [hsame]

end Sys2Proof.Machine
end

section
/-! SUPPORT. The report unit's events, its additions to the loss and its expiries, and the tick's work finished first. -/

namespace Sys2Proof.Machine

open Sys2Proof Relation

/-! ## Placing an event (R117, R118, R120, R121) -/

theorem holdsSubject_iff (q : List ReportRecord) (x : Subject) : holdsSubject q x = true ↔ ∃ r ∈ q, r.subject = x := by
  simp [holdsSubject]

theorem holdsSubject_of_absent (q : List ReportRecord) (x : Subject) (h : ∀ r ∈ q, r.subject ≠ x) :
    holdsSubject q x = false := by
  rw [Bool.eq_false_iff, Ne, holdsSubject_iff]
  rintro ⟨r, hr, hx⟩
  exact h r hr hx

/-- A change to the records of one subject changes the one record that has it. -/
theorem map_of_subject (older newer : List ReportRecord) (r : ReportRecord) (x : Subject)
    (f : ReportRecord → ReportRecord) (hr : r.subject = x) (h : ∀ y ∈ older ++ newer, y.subject ≠ x) :
    (older ++ r :: newer).map (fun y => if y.subject = x then f y else y) = older ++ f r :: newer := by
  have hfix : ∀ ys : List ReportRecord, (∀ y ∈ ys, y ∈ older ++ newer) →
      ys.map (fun y => if y.subject = x then f y else y) = ys := fun ys hys =>
    (List.map_congr_left fun y hy => if_neg (h y (hys y hy))).trans (List.map_id ys)
  rw [List.map_append, List.map_cons, if_pos hr, hfix older (by simp +contextual), hfix newer (by simp +contextual)]

theorem placeEvent_coalesces (c : Byte) (ev : Event) (older newer : List ReportRecord) (r : ReportRecord)
    (hr : r.subject = ev.subject) (h : ∀ y ∈ older ++ newer, y.subject ≠ ev.subject) :
    placeEvent c ev (older ++ r :: newer) = older ++ r.coalesce ev :: newer := by
  have hholds : holdsSubject (older ++ r :: newer) ev.subject = true := (holdsSubject_iff _ _).mpr ⟨r, by simp, hr⟩
  rw [placeEvent, if_pos hholds, map_of_subject older newer r ev.subject _ hr h]

theorem placeEvent_appends (c : Byte) (ev : Event) (q : List ReportRecord) (h : ∀ x ∈ q, x.subject ≠ ev.subject)
    (hroom : generalRecords q < 31) : placeEvent c ev q = q ++ [ev.record] := by
  rw [placeEvent, if_neg (by simp [holdsSubject_of_absent q _ h]), if_pos hroom]

theorem placeEvent_of_full (c : Byte) (ev : Event) (q : List ReportRecord) (h : ∀ x ∈ q, x.subject ≠ ev.subject)
    (hfull : 31 ≤ generalRecords q) :
    placeEvent c ev q =
      if ev.eventClass = .urgent ∧ q.any (fun r => !r.urgent) then
        addLoss c 1 (q.eraseP (fun r => !r.urgent) ++ [ev.record])
      else addLoss c 1 q := by
  rw [placeEvent, if_neg (by simp [holdsSubject_of_absent q _ h]), if_neg (Nat.not_lt.mpr hfull)]

/-- The first ROUTINE record of a queue is the one that an URGENT event displaces (R120). -/
theorem eraseP_routine (older newer : List ReportRecord) (r : ReportRecord) (hr : r.urgent = false)
    (h : ∀ x ∈ older, x.urgent = true) : (older ++ r :: newer).eraseP (fun r => !r.urgent) = older ++ newer := by
  rw [List.eraseP_append_right _ fun x hx => by simp [h x hx], List.eraseP_cons_of_pos (by simp [hr])]

/-- An addition to the loss where there is a LOSS record (R121). -/
theorem addLoss_of_record (c : Byte) (k : Nat) (older newer : List ReportRecord) (r : ReportRecord)
    (hr : r.subject = .loss) (h : ∀ x ∈ older ++ newer, x.subject ≠ .loss) :
    addLoss c k (older ++ r :: newer) = older ++ r.addLoss c k :: newer := by
  have hholds : holdsSubject (older ++ r :: newer) .loss = true := (holdsSubject_iff _ _).mpr ⟨r, by simp, hr⟩
  rw [addLoss, if_pos hholds, map_of_subject older newer r .loss _ hr h]

/-- The LOSS record after n additions that sum to k. -/
def lossRecord (c : Byte) (n k : Nat) : ReportRecord :=
  ⟨.loss, .lost, .lost, true, min 255 n, c, none, some (min 65535 k)⟩

theorem lossRecord_addLoss (c : Byte) (n total k : Nat) :
    (lossRecord c n total).addLoss c k = lossRecord c (n + 1) (total + k) := by
  have hcount : min 255 (min 255 n + 1) = min 255 (n + 1) := by omega
  have htotal : min 65535 (min 65535 total + k) = min 65535 (total + k) := by omega
  simp [lossRecord, ReportRecord.addLoss, satAdd, Config.byteMax, Config.counterMax, hcount, htotal]

/-- Further additions keep the number and the sum in the LOSS record. -/
theorem addLoss_foldl (c : Byte) (ks : List Nat) (q : List ReportRecord) (n total : Nat) (h : ∀ x ∈ q, x.subject ≠ .loss) :
    ks.foldl (fun q k => addLoss c k q) (q ++ [lossRecord c n total])
      = q ++ [lossRecord c (n + ks.length) (total + ks.sum)] := by
  induction ks generalizing n total with
  | nil => rfl
  | cons k ks ih =>
    rw [List.foldl_cons, addLoss_of_record c k q [] _ rfl (by simpa using h), lossRecord_addLoss, ih, List.length_cons,
      List.sum_cons, Nat.add_right_comm n 1, Nat.add_assoc n, Nat.add_assoc total]

/-- Settles O42. -/
theorem eventPlacementAndLoss : Obligations.EventPlacementAndLoss := by
  refine ⟨fun c ev q => ⟨?_, ?_, ?_, ?_⟩, fun c k q => addLoss_of_absent c k q, ?_, fun c ks q hne habsent => ?_⟩
  · rintro older newer r rfl hr h
    exact placeEvent_coalesces c ev older newer r hr h
  · exact placeEvent_appends c ev q
  · rintro older newer r rfl hr hurgent h hfull hclass
    rw [placeEvent_of_full c ev _ h hfull, if_pos ⟨hclass, by simp [hr]⟩, eraseP_routine older newer r hr hurgent]
    simp [Event.record, hclass]
  · intro h hfull hlost
    rw [placeEvent_of_full c ev q h hfull, if_neg]
    rintro ⟨hclass, hany⟩
    obtain ⟨x, hx, hroutine⟩ := List.any_eq_true.mp hany
    rcases hlost with hne | hall
    · exact hne hclass
    · simp [hall x hx] at hroutine
  · intro c k n older newer r hr hn h
    rw [addLoss_of_record c k older newer r hr h]
    simp [ReportRecord.addLoss, satAdd, Config.byteMax, Config.counterMax, hn, hr]
  · obtain ⟨k, ks, rfl⟩ := List.exists_cons_of_ne_nil hne
    rw [List.foldl_cons, addLoss_of_absent c k q habsent]
    refine (addLoss_foldl c ks q 1 k habsent).trans ?_
    rw [List.length_cons, List.sum_cons, Nat.add_comm 1]
    rfl

/-! ## An expiry (R127, R128) -/

/-- The test for the frame an expiry is about. -/
def expiresAs (sequence : Byte) (x : ReportFrame) : Bool := x.sequence == sequence && x.expired

theorem expiresAs_iff (sequence : Byte) (x : ReportFrame) :
    expiresAs sequence x = true ↔ x.sequence = sequence ∧ x.expired = true := by
  simp [expiresAs]

theorem State.expire_of_absent (s : State) (sequence : Byte) (h : ∀ x ∈ s.report.unacked, expiresAs sequence x = false) :
    s.expire sequence = s := by
  have hnone : s.report.unacked.find? (expiresAs sequence) = none :=
    List.find?_eq_none.mpr fun x hx => by simp [h x hx]
  unfold State.expire
  change (match s.report.unacked.find? (expiresAs sequence) with | none => s | some f => _) = s
  rw [hnone]

/-- An expired frame with sends left becomes due (R127). -/
theorem State.expire_retries (s : State) (older newer : List ReportFrame) (f : ReportFrame)
    (hlist : s.report.unacked = older ++ f :: newer) (hf : f.expired = true)
    (holder : ∀ x ∈ older, expiresAs f.sequence x = false) (hsends : f.sendCount < 1 + s.agent.settings.retryLimit) :
    s.expire f.sequence =
      { s with report := { s.report with
          unacked := s.report.unacked.map
            (fun x => if expiresAs f.sequence x then { x with due := true, expired := false } else x) } } := by
  have hfind : s.report.unacked.find? (expiresAs f.sequence) = some f := by
    rw [hlist, List.find?_append, List.find?_eq_none.mpr fun x hx => by simp [holder x hx]]
    simp [(expiresAs_iff f.sequence f).mpr ⟨rfl, hf⟩]
  unfold State.expire
  change (match s.report.unacked.find? (expiresAs f.sequence) with | none => s | some f => _) = _
  rw [hfind]
  exact if_pos hsends

/-- An expired frame whose sends are spent leaves the list with every older one (R128). -/
theorem State.expire_discards (s : State) (older newer : List ReportFrame) (f : ReportFrame)
    (hlist : s.report.unacked = older ++ f :: newer) (hf : f.expired = true)
    (holder : ∀ x ∈ older, expiresAs f.sequence x = false) (hsends : 1 + s.agent.settings.retryLimit ≤ f.sendCount) :
    s.expire f.sequence =
      { s with report := { s.report with
          unacked := newer
          queue := (older ++ [f]).foldl (fun q (x : ReportFrame) => addLoss s.commit.generation x.records.length q)
            s.report.queue } } := by
  have hexpires : expiresAs f.sequence f = true := (expiresAs_iff f.sequence f).mpr ⟨rfl, hf⟩
  have hfind : s.report.unacked.find? (expiresAs f.sequence) = some f := by
    rw [hlist, List.find?_append, List.find?_eq_none.mpr fun x hx => by simp [holder x hx]]
    simp [hexpires]
  have hparts : splitThrough (expiresAs f.sequence) s.report.unacked = (older ++ [f], newer) := by
    rw [hlist]
    exact splitThrough_append _ older newer f hexpires holder
  unfold State.expire
  change (match s.report.unacked.find? (expiresAs f.sequence) with | none => s | some f => _) = _
  rw [hfind]
  refine (if_neg (Nat.not_lt.mpr hsends)).trans ?_
  change ({ s with report := { s.report with
    unacked := (splitThrough (expiresAs f.sequence) s.report.unacked).2 } } : State).loseFrames
      (splitThrough (expiresAs f.sequence) s.report.unacked).1 = _
  rw [hparts, State.loseFrames_eq]

/-- Settles O41. -/
theorem retryExpiryRetriesOrDiscards : Obligations.RetryExpiryRetriesOrDiscards := by
  intro s older newer f hlist hf holder hnewer
  have hfirst : ∀ x ∈ older, expiresAs f.sequence x = false := fun x hx => by simp [expiresAs, holder x hx]
  have hmine : expiresAs f.sequence f = true := (expiresAs_iff f.sequence f).mpr ⟨rfl, hf⟩
  refine ⟨fun hsends => ?_, fun hsends => ?_⟩
  · show takeNow (fun t => t.expire f.sequence) s = _
    rw [takeNow, s.expire_retries older newer f hlist hf hfirst hsends, hlist,
      again_eq older newer f _ (fun x hx => by simp [expiresAs, hx]) fun x hx =>
        (List.mem_append.mp hx).elim (holder x) (hnewer x)]
    simp [hmine]
  · show takeNow (fun t => t.expire f.sequence) s = _
    rw [takeNow, s.expire_discards older newer f hlist hf hfirst hsends]

/-! ## The tick's work is finished (R35, R105, R126) -/

/-- The sequences of the expired frames among those of a list, oldest first. -/
def expiredSequences (frames : List ReportFrame) : List Byte := (frames.filter (·.expired)).map (·.sequence)

/-- An expired frame is retried or discarded: what still expires is found among the sequences that come after it. -/
theorem State.expire_expiredSequences (s : State) (sequence : Byte) (later : List Byte)
    (h : (expiredSequences s.report.unacked).Sublist (sequence :: later)) :
    (expiredSequences (s.expire sequence).report.unacked).Sublist later := by
  cases hfind : s.report.unacked.find? (expiresAs sequence) with
  | none =>
    have habsent : ∀ x ∈ s.report.unacked, expiresAs sequence x = false := by
      simpa using List.find?_eq_none.mp hfind
    rw [s.expire_of_absent sequence habsent]
    rcases List.sublist_cons_iff.mp h with hlater | ⟨rest, hrest, -⟩
    · exact hlater
    · have hmem : sequence ∈ expiredSequences s.report.unacked := by simp [hrest]
      obtain ⟨x, hx, hsequence⟩ := List.mem_map.mp hmem
      obtain ⟨hlisted, hexpired⟩ := List.mem_filter.mp hx
      exact absurd ((expiresAs_iff sequence x).mpr ⟨hsequence, hexpired⟩) (by simp [habsent x hlisted])
  | some f =>
    obtain ⟨hf, older, newer, hlist, holder⟩ := List.find?_eq_some_iff_append.mp hfind
    obtain ⟨rfl, hexpired⟩ := (expiresAs_iff sequence f).mp hf
    have hfirst : ∀ x ∈ older, expiresAs f.sequence x = false := by simpa using holder
    by_cases hsends : f.sendCount < 1 + s.agent.settings.retryLimit
    · rw [s.expire_retries older newer f hlist hexpired hfirst hsends]
      have hleft : expiredSequences (s.report.unacked.map
            (fun x => if expiresAs f.sequence x then { x with due := true, expired := false } else x))
          = (expiredSequences s.report.unacked).filter (· != f.sequence) := by
        generalize s.report.unacked = frames
        induction frames with
        | nil => rfl
        | cons x rest ih =>
          unfold expiredSequences at ih ⊢
          have hexpires : expiresAs f.sequence x = (x.sequence == f.sequence && x.expired) := rfl
          rw [List.map_cons]
          cases hx : x.expired
          · simpa [hexpires, hx] using ih
          · by_cases hsequence : x.sequence = f.sequence
            · simpa [hexpires, hx, hsequence] using ih
            · simpa [hexpires, hx, hsequence] using ih
      have hfiltered := h.filter (· != f.sequence)
      rw [List.filter_cons_of_neg (by simp)] at hfiltered
      exact hleft ▸ hfiltered.trans List.filter_sublist
    · rw [s.expire_discards older newer f hlist hexpired hfirst (Nat.le_of_not_lt hsends)]
      have hsplit : expiredSequences s.report.unacked
          = expiredSequences older ++ f.sequence :: expiredSequences newer := by
        simp [expiredSequences, hlist, hexpired]
      rw [hsplit] at h
      exact List.cons_sublist_cons.mp ((List.sublist_append_right _ _).trans h)

theorem State.expire_commit (s : State) (sequence : Byte) : (s.expire sequence).commit = s.commit := by
  unfold State.expire
  split
  · rfl
  · split
    · rfl
    · simp [State.loseFrames_eq]

theorem State.expires_none (s : State) (sequences : List Byte)
    (h : (expiredSequences s.report.unacked).Sublist sequences) :
    expiredSequences (sequences.foldl State.expire s).report.unacked = []
      ∧ (sequences.foldl State.expire s).commit = s.commit := by
  induction sequences generalizing s with
  | nil => exact ⟨List.sublist_nil.mp h, rfl⟩
  | cons sequence later ih =>
    obtain ⟨hnone, hcommit⟩ := ih _ (s.expire_expiredSequences sequence later h)
    exact ⟨hnone, hcommit.trans (s.expire_commit sequence)⟩

theorem State.forceIfDue_forcingDue (s : State) : s.forceIfDue.forcingDue = false := by
  unfold State.forceIfDue
  split
  · simp [State.forcingDue, State.completeCommit]
  · rename_i h
    simpa using h

/-- Nothing of a tick is left once its work is finished. -/
theorem State.finishTick_tickDone (s : State) : s.finishTick.tickDone = true := by
  obtain ⟨hnone, hcommit⟩ := s.finishStale.forceIfDue.expires_none _ (List.Sublist.refl _)
  have hexpired : s.finishTick.report.unacked.any (·.expired) = false := by
    have hempty : s.finishTick.report.unacked.filter (·.expired) = [] := List.map_eq_nil_iff.mp hnone
    rw [List.any_eq_false]
    exact fun x hx => List.filter_eq_nil_iff.mp hempty x hx
  have hforcing : s.finishTick.forcingDue = false := by
    have hsame : s.finishTick.commit = s.finishStale.forceIfDue.commit := hcommit
    have hdone := s.finishStale.forceIfDue_forcingDue
    unfold State.forcingDue at hdone ⊢
    rw [hsame, hdone]
  simp [State.tickDone, s.finishTick_staleDue, hforcing, hexpired]

theorem State.finishTick_finishTick (s : State) : s.finishTick.finishTick = s.finishTick :=
  s.finishTick.finishTick_of_tickDone s.finishTick_tickDone

theorem takeClaim_finishTick (f : State → State) (s : State) : takeClaim f s = takeClaim f s.finishTick := by
  rw [takeClaim, takeClaim, s.finishTick_finishTick]

/-- Every command outside the tick's own work is a claim taken whole. -/
theorem exec_claim (i : Instr) (h : i.partOfTick = false) : ∃ f, ∀ s, exec i s = takeClaim f s := by
  cases i
  case powerOnReset | powerOnHoldEnd | stale | deadlineForcing | retryExpiry => simp [Instr.partOfTick] at h
  all_goals exact ⟨_, fun s => by dsimp only [exec]; rfl⟩

/-- Settles O4: every command outside the tick's own work is a claim taken whole, and finishing is idempotent. -/
theorem tickWorkIsFinishedFirst : Obligations.TickWorkIsFinishedFirst := by
  refine ⟨State.finishTick_tickDone, State.finishTick_of_tickDone, fun i s h => ?_⟩
  obtain ⟨f, hf⟩ := exec_claim i h
  rw [hf, hf]
  exact takeClaim_finishTick f s

end Sys2Proof.Machine
end

section
/-! SUPPORT. What a transmitter sends, one symbol a byte time (R1, R14, R145). -/

namespace Sys2Proof.Machine

open Sys2Proof Relation

/-! ## The sides of a port after a change of one of them -/

theorem State.port_setTx_tx (s : State) (p : Port) (x : TxSide) : ((s.setTx p x).port p).tx = x := by
  cases p <;> rfl

theorem State.port_setTx_rx (s : State) (p : Port) (x : TxSide) : ((s.setTx p x).port p).rx = (s.port p).rx := by
  cases p <;> rfl

theorem State.port_setTx_other (s : State) (p q : Port) (x : TxSide) (h : q ≠ p) : (s.setTx p x).port q = s.port q := by
  cases p with
  | h => cases q with
    | h => exact absurd rfl h
    | f => rfl
  | f => cases q with
    | h => rfl
    | f => exact absurd rfl h

/-! ## IDLE (R14, R145) -/

/-- A transmit side without a frame after one byte time. -/
def TxSide.sendIdle (x : TxSide) : TxSide :=
  { x with
    gapLeft := x.gapLeft - 1
    idleRun := min 32 (x.idleRun + 1)
    longGap := if min 32 (x.idleRun + 1) = 32 then 0 else x.longGap
    out := .symbol .idle }

theorem State.transmit_idle (s : State) (p : Port) (h : (s.port p).tx.frame = none) :
    s.transmit p = s.setTx p (s.port p).tx.sendIdle := by
  simp [State.transmit, TxSide.sendIdle, h, Config.idleRunLength]

/-- After n byte times without a frame the gap owed has fallen by n, the run has risen by n as far as 32, and the long-gap
count stands at 16 only where no run of 32 was reached. -/
theorem State.idle_after (s : State) (p : Port) (h : (s.port p).tx.frame = none) (n : Nat) :
    let x := (s.port p).tx
    let y := (((fun u : State => u.transmit p)^[n] s).port p).tx
    y.frame = none ∧ y.gapLeft = x.gapLeft - n ∧ min 32 y.idleRun = min 32 (x.idleRun + n)
      ∧ (y.longGap = 16 ↔ x.longGap = 16 ∧ (n = 0 ∨ x.idleRun + n < 32)) := by
  induction n with
  | zero => simp [h]
  | succ n ih =>
    dsimp only at ih ⊢
    rw [Function.iterate_succ_apply']
    generalize (fun u : State => u.transmit p)^[n] s = u at ih ⊢
    obtain ⟨hframe, hgap, hrun, hlong⟩ := ih
    rw [u.transmit_idle p hframe, State.port_setTx_tx]
    refine ⟨hframe, ?_, ?_, ?_⟩
    · simp only [TxSide.sendIdle, hgap]
      omega
    · simp only [TxSide.sendIdle]
      omega
    · simp only [TxSide.sendIdle]
      split_ifs with h32
      · rw [false_or]
        exact ⟨False.elim, fun ⟨_, hlt⟩ => by omega⟩
      · rw [hlong, false_or]
        refine and_congr_right fun _ => ?_
        omega

/-! ## A frame, symbol by symbol (R1) -/

/-- The transmission of a frame at port p has reached its n-th symbol. -/
theorem State.transmit_start (s : State) (p : Port) (bytes : List Byte) (source : Supplier)
    (h : (s.port p).tx.frame = some ⟨bytes, source, 0⟩) :
    s.transmit p = s.setTx p { (s.port p).tx with frame := some ⟨bytes, source, 1⟩, out := .symbol .start } := by
  simp [State.transmit, h]

theorem State.transmit_byte (s : State) (p : Port) (bytes : List Byte) (source : Supplier) (n : Nat)
    (h : (s.port p).tx.frame = some ⟨bytes, source, n + 1⟩) (hn : n < bytes.length) :
    s.transmit p = s.setTx p
      { (s.port p).tx with frame := some ⟨bytes, source, n + 2⟩, out := .symbol (.data (byteAt bytes n)) } := by
  have hle : n + 1 ≤ bytes.length := hn
  simp [State.transmit, h, hle]

/-- The last symbol of a frame is END, and the transmitter is free (R13, R14). -/
theorem State.transmit_end (s : State) (p : Port) (bytes : List Byte) (source : Supplier)
    (h : (s.port p).tx.frame = some ⟨bytes, source, bytes.length + 1⟩) :
    ((s.transmit p).port p).tx = (s.port p).tx.endFrame := by
  have hcomplete : s.transmit p = s.transmissionComplete p := by simp [State.transmit, h]
  rw [hcomplete]
  cases p with
  | h =>
    rw [State.transmissionComplete, s.headComplete_of_frame _ h]
    rfl
  | f =>
    rw [State.transmissionComplete, s.fieldComplete_of_frame _ h]
    rfl

/-- After n + 1 byte times START and n bytes of the frame have gone out. -/
theorem State.sending_after (s : State) (p : Port) (bytes : List Byte) (source : Supplier)
    (h : (s.port p).tx.frame = some ⟨bytes, source, 0⟩) (n : Nat) (hn : n ≤ bytes.length) :
    let y := (((fun u : State => u.transmit p)^[n + 1] s).port p).tx
    y.frame = some ⟨bytes, source, n + 1⟩
      ∧ y.out = .symbol (if n = 0 then .start else .data (byteAt bytes (n - 1))) := by
  induction n with
  | zero =>
    rw [Function.iterate_one, s.transmit_start p bytes source h, State.port_setTx_tx]
    exact ⟨rfl, rfl⟩
  | succ n ih =>
    obtain ⟨hframe, -⟩ := ih (by omega)
    dsimp only
    rw [Function.iterate_succ_apply', State.transmit_byte _ p bytes source n hframe hn, State.port_setTx_tx]
    exact ⟨rfl, rfl⟩

/-- Settles O48: the idle transmitter by `State.idle_after`, a frame by `State.sending_after` and its END. -/
theorem transmitterSendsStartBytesEnd : Obligations.TransmitterSendsStartBytesEnd := by
  refine ⟨fun s p h => ?_, fun s p bytes source h => ?_⟩
  · intro x after
    have hone : after 1 = x.sendIdle := by
      show ((s.transmit p).port p).tx = _
      rw [s.transmit_idle p h, State.port_setTx_tx]
    rw [hone, s.transmit_idle p h]
    refine ⟨h, rfl, rfl, rfl, fun hrun => ?_, fun hrun => ?_, s.port_setTx_rx p _, fun q hq => s.port_setTx_other p q _ hq,
      fun n => ?_⟩
    · exact if_neg (by omega)
    · exact if_pos (by omega)
    · obtain ⟨hframe, hgap, hrun, hlong⟩ := s.idle_after p h n
      rw [TxSide.isIdle_iff]
      show (after n).frame = none ∧ (after n).gapLeft = 0 ∧ ((after n).longGap = 16 → 32 ≤ (after n).idleRun) ↔ _
      simp only [show (after n).frame = none from hframe, show (after n).gapLeft = x.gapLeft - n from hgap,
        show (after n).longGap = 16 ↔ x.longGap = 16 ∧ (n = 0 ∨ x.idleRun + n < 32) from hlong]
      have hrun' : 32 ≤ (after n).idleRun ↔ 32 ≤ x.idleRun + n := by
        have : min 32 (after n).idleRun = min 32 (x.idleRun + n) := hrun
        omega
      rw [hrun']
      refine ⟨fun ⟨_, hzero, hlast⟩ => ⟨by omega, fun h16 => ?_⟩, fun ⟨hle, hlast⟩ =>
        ⟨trivial, by omega, fun ⟨h16, _⟩ => hlast h16⟩⟩
      by_cases hlt : n = 0 ∨ x.idleRun + n < 32
      · exact hlast ⟨h16, hlt⟩
      · omega
  · intro after
    have hsending := s.sending_after p bytes source h
    obtain ⟨-, hstart⟩ := hsending 0 (Nat.zero_le _)
    have hend : after (bytes.length + 2)
        = (((fun u : State => u.transmit p)^[bytes.length + 1] s).port p).tx.endFrame := by
      obtain ⟨hlast, -⟩ := hsending bytes.length le_rfl
      show (((fun u : State => u.transmit p)^[bytes.length + 1 + 1] s).port p).tx = _
      rw [Function.iterate_succ_apply']
      exact State.transmit_end _ p bytes source hlast
    refine ⟨hstart, fun i b hb => ?_, ?_, ?_, fun n hn => ?_⟩
    · obtain ⟨hlt, rfl⟩ := List.getElem?_eq_some_iff.mp hb
      obtain ⟨-, hbyte⟩ := hsending (i + 1) hlt
      show _ = LineItem.symbol (.data bytes[i])
      have hat : byteAt bytes i = bytes[i] := by simp [byteAt, List.getD_eq_getElem?_getD, hlt]
      rw [← hat]
      exact hbyte
    · rw [hend]
      rfl
    · rw [hend]
      rfl
    · cases n with
      | zero =>
        show (s.port p).tx.frame ≠ none
        simp [h]
      | succ n =>
        obtain ⟨hframe, -⟩ := hsending n (by omega)
        show (after (n + 1)).frame ≠ none
        rw [show (after (n + 1)).frame = some ⟨bytes, source, n + 1⟩ from hframe]
        simp

end Sys2Proof.Machine
end

section
/-! SUPPORT. A byte time with silent lines: what it leaves of the tick generator, and that it acts as the tick does. -/

namespace Sys2Proof.Machine

open Sys2Proof Relation

/-! ## The tick generator in a byte time (R87) -/

/-- What the generator reads is as it was: the time measured and the settings. -/
def State.SameClock (s t : State) : Prop := t.elapsed = s.elapsed ∧ t.agent.settings = s.agent.settings

theorem State.SameClock.trans {s t u : State} (h : s.SameClock t) (k : t.SameClock u) : s.SameClock u :=
  ⟨k.1.trans h.1, k.2.trans h.2⟩

theorem State.SameClock.of_eq {s t : State} (h : t.elapsed = s.elapsed) (k : t.agent = s.agent) : s.SameClock t :=
  ⟨h, by rw [k]⟩

theorem State.withdrawPromotion_sameClock (s : State) : s.SameClock s.withdrawPromotion := .of_eq (by simp) (by simp)

theorem State.SameClock.withdrawn {s t : State} (h : s.SameClock t) : s.SameClock t.withdrawPromotion :=
  h.trans t.withdrawPromotion_sameClock

/-- The work of a tick reaches neither port, nor the inbound queue, the agent or the generator. -/
def State.SameOutside (s t : State) : Prop :=
  t.hPort = s.hPort ∧ t.inbound = s.inbound ∧ t.agent = s.agent ∧ t.elapsed = s.elapsed

theorem State.SameOutside.trans {s t u : State} (h : s.SameOutside t) (k : t.SameOutside u) : s.SameOutside u :=
  have ⟨h1, h2, h3, h4⟩ := h
  have ⟨k1, k2, k3, k4⟩ := k
  ⟨k1.trans h1, k2.trans h2, k3.trans h3, k4.trans h4⟩

theorem State.SameOutside.foldl {α : Type} (f : State → α → State) (h : ∀ (s : State) (a : α), s.SameOutside (f s a)) (l : List α)
    (s : State) : s.SameOutside (l.foldl f s) := by
  induction l generalizing s with
  | nil => exact ⟨rfl, rfl, rfl, rfl⟩
  | cons a rest ih => exact (h s a).trans (ih _)

theorem State.expire_sameOutside (s : State) (sequence : Byte) : s.SameOutside (s.expire sequence) := by
  unfold State.expire
  split
  · exact ⟨rfl, rfl, rfl, rfl⟩
  · split
    · exact ⟨rfl, rfl, rfl, rfl⟩
    · simp [State.SameOutside, State.loseFrames_eq]

theorem State.finishStale_sameOutside (s : State) : s.SameOutside s.finishStale := by
  unfold State.finishStale
  split
  · exact ⟨rfl, rfl, rfl, rfl⟩
  · obtain ⟨h1, h2, h3, h4⟩ := State.SameOutside.foldl State.makeStale
      (fun s e => ⟨by simp, by simp, by simp, by simp⟩) s.staleDue s
    exact ⟨h1, h2, h3, h4⟩

theorem State.forceIfDue_sameOutside (s : State) : s.SameOutside s.forceIfDue := by
  unfold State.forceIfDue
  split
  · exact ⟨by simp, by simp, by simp, by simp⟩
  · exact ⟨rfl, rfl, rfl, rfl⟩

theorem State.finishTick_sameOutside (s : State) : s.SameOutside s.finishTick :=
  (s.finishStale_sameOutside.trans (State.forceIfDue_sameOutside _)).trans
    (State.SameOutside.foldl State.expire State.expire_sameOutside _ _)

theorem State.finishTick_sameClock (s : State) : s.SameClock s.finishTick :=
  have ⟨_, _, hagent, helapsed⟩ := s.finishTick_sameOutside
  .of_eq helapsed hagent

theorem Work.elapsed {s t : State} (h : Work s t) : t.elapsed = s.elapsed := by
  cases h with
  | raise ev => simp
  | _ => rfl

theorem Works.sameClock {s t : State} (h : Works s t) : s.SameClock t :=
  .of_eq (chain_keeps (fun t => t.elapsed = s.elapsed) (fun _ _ hwork hs => hwork.elapsed.trans hs) h rfl)
    h.sameSides.agent

theorem State.qualify_sameClock (s : State) : s.SameClock s.qualify := by
  unfold State.qualify
  split
  · exact ⟨rfl, rfl⟩
  · rename_i f _
    obtain ⟨helapsed, hsettings⟩ := (s.claimFrame_works f.bytes).sameClock
    exact ⟨helapsed, hsettings⟩

theorem State.setRx_sameClock (s : State) (p : Port) (r : RxSide) : s.SameClock (s.setRx p r) := .of_eq (by simp) (by simp)

theorem State.raiseFieldLine_sameClock (s : State) (k : EventKind) : s.SameClock (s.raiseFieldLine k) :=
  .of_eq (State.raise_elapsed _ _) (State.raise_agent _ _)

theorem State.countDiscard_sameClock (s : State) (p : Port) : s.SameClock (s.countDiscard p) := by
  cases p <;> exact ⟨rfl, rfl⟩

theorem State.acquisitionLost_sameClock (s : State) (p : Port) : s.SameClock (s.acquisitionLost p) := by
  unfold State.acquisitionLost
  split_ifs
  · cases p with
    | h => exact s.setRx_sameClock .h _
    | f => exact (s.setRx_sameClock .f _).trans (State.raiseFieldLine_sameClock _ _)
  · exact ⟨rfl, rfl⟩

theorem State.interrupted_sameClock (s : State) (p : Port) : s.SameClock (s.interrupted p) := by
  unfold State.interrupted
  dsimp only
  split_ifs
  · exact (s.countDiscard_sameClock p).trans (State.setRx_sameClock _ p _)
  · exact s.setRx_sameClock p _
  · exact ⟨rfl, rfl⟩

theorem State.lineLost_sameClock (s : State) (p : Port) : s.SameClock (s.lineLost p) := by
  unfold State.lineLost
  split_ifs
  · cases p with
    | h =>
      dsimp only
      rw [State.headLossReset_eq]
      exact ⟨rfl, rfl⟩
    | f => exact (s.setRx_sameClock .f _).trans (State.raiseFieldLine_sameClock _ _)
  · exact ⟨rfl, rfl⟩

/-- A silent line moves timers and line states, and reaches the tick generator in no way. -/
theorem State.silence_sameClock (s : State) (p : Port) : s.SameClock (s.receive p .silence) := by
  show s.SameClock (s.noSymbol p)
  unfold State.noSymbol
  dsimp only
  cases (s.port p).rx.state with
  | down => exact ⟨rfl, rfl⟩
  | acquiring =>
    dsimp only
    split_ifs
    · exact (s.setRx_sameClock p _).trans (State.acquisitionLost_sameClock _ p)
    · exact s.setRx_sameClock p _
  | up =>
    dsimp only
    split_ifs
    · exact (s.setRx_sameClock p _).trans (State.interrupted_sameClock _ p)
    · exact s.setRx_sameClock p _
  | interrupted =>
    dsimp only
    split_ifs
    · exact (s.setRx_sameClock p _).trans (State.lineLost_sameClock _ p)
    · exact s.setRx_sameClock p _

theorem State.setTx_sameClock (s : State) (p : Port) (x : TxSide) : s.SameClock (s.setTx p x) := .of_eq (by simp) (by simp)

theorem State.transmissionComplete_sameClock (s : State) (p : Port) : s.SameClock (s.transmissionComplete p) := by
  cases p with
  | h =>
    show s.SameClock s.headComplete
    cases hx : s.hPort.tx.frame with
    | none => simp [State.headComplete, hx, State.SameClock]
    | some x =>
      rw [s.headComplete_of_frame x hx, s.releaseHead_eq]
      exact ⟨rfl, rfl⟩
  | f =>
    show s.SameClock s.fieldComplete
    cases hx : s.fPort.tx.frame with
    | none => simp [State.fieldComplete, hx, State.SameClock]
    | some x =>
      rw [s.fieldComplete_of_frame x hx]
      exact ⟨rfl, rfl⟩

theorem State.transmit_sameClock (s : State) (p : Port) : s.SameClock (s.transmit p) := by
  unfold State.transmit
  dsimp only
  split
  · split_ifs
    · exact s.setTx_sameClock p _
    · exact s.setTx_sameClock p _
    · exact s.transmissionComplete_sameClock p
  · exact s.setTx_sameClock p _

theorem State.fieldStart_sameClock (s : State) : s.SameClock s.fieldStart := by
  unfold State.fieldStart
  split_ifs
  · split <;> exact ⟨rfl, rfl⟩
  · exact ⟨rfl, rfl⟩

theorem State.sendReport_sameClock (s : State) (ofClass : ReportFrame → Bool) (p : ReportRecord → Bool) :
    s.SameClock (s.sendReport ofClass p) := by
  unfold State.sendReport
  split <;> exact ⟨rfl, rfl⟩

theorem State.serve_sameClock (s : State) (k : ClaimKind) : s.SameClock (s.serve k) := by
  have hpromoted : s.SameClock { s with promotion := s.promoted k } := ⟨rfl, rfl⟩
  cases k with
  | urgent => exact hpromoted.trans (State.sendReport_sameClock _ _ _)
  | routine => exact hpromoted.trans (State.sendReport_sameClock _ _ _)
  | response =>
    simp only [State.serve, State.sendResponse]
    split <;> exact ⟨rfl, rfl⟩
  | transit =>
    simp only [State.serve, State.sendTransit]
    split <;> exact ⟨rfl, rfl⟩

theorem State.grant_sameClock (s : State) : s.SameClock s.grant := by
  unfold State.grant
  split_ifs
  · split
    · exact s.serve_sameClock _
    · exact ⟨rfl, rfl⟩
  · exact ⟨rfl, rfl⟩

/-- The generator measures 8 clock periods, and starts from 0 where they reach the tick period (R87). -/
theorem State.advanceGenerator_clock (s : State) (hrun : s.running = true) :
    s.advanceGenerator.elapsed
      = if s.agent.settings.tickPeriod.clocks ≤ s.elapsed + 8 then 0 else s.elapsed + 8 := by
  unfold State.advanceGenerator
  dsimp only
  split_ifs with h
  · rw [(State.finishTick_sameClock _).1]
    simp [State.tick, hrun]
  · rfl

/-- The events of a silent byte time that come before the generator's. -/
def State.beforeGenerator (s : State) : State :=
  ((((s.finishTick.withdrawPromotion.receive .h .silence).withdrawPromotion.receive .f .silence).withdrawPromotion.transmit
    .h).withdrawPromotion.transmit .f).withdrawPromotion

/-- The events of a byte time that come after the generator's. -/
def State.afterGenerator (s : State) : State :=
  ((s.qualify.withdrawPromotion).fieldStart.withdrawPromotion).grant.withdrawPromotion

theorem State.runByte_silence (s : State) :
    s.runByte .silence .silence = s.beforeGenerator.advanceGenerator.withdrawPromotion.afterGenerator := by
  unfold State.runByte byteEvents State.afterGenerator State.beforeGenerator
  simp only [List.foldl_cons, List.foldl_nil]

theorem State.beforeGenerator_sameClock (s : State) : s.SameClock s.beforeGenerator :=
  ((((s.finishTick_sameClock.withdrawn.trans (State.silence_sameClock _ .h).withdrawn).trans
    (State.silence_sameClock _ .f).withdrawn).trans (State.transmit_sameClock _ .h).withdrawn).trans
    (State.transmit_sameClock _ .f).withdrawn)

theorem State.afterGenerator_sameClock (s : State) : s.SameClock s.afterGenerator :=
  (s.qualify_sameClock.withdrawn.trans (State.fieldStart_sameClock _).withdrawn).trans (State.grant_sameClock _).withdrawn

theorem State.beforeGenerator_running (s : State) (hrun : s.running = true) : s.beforeGenerator.running = true := by
  have hlines : Acts s
      (((s.finishTick.withdrawPromotion.receive .h .silence).withdrawPromotion.receive .f .silence).withdrawPromotion) :=
    (s.finishTick_acts.withdrawn.trans (State.receive_acts _ .h _).withdrawn).trans (State.receive_acts _ .f _).withdrawn
  have hsent := hlines.trans (State.transmit_acts _ .h (Acts.running hlines hrun)).withdrawn
  exact Acts.running (hsent.trans (State.transmit_acts _ .f (Acts.running hsent hrun)).withdrawn) hrun

theorem State.runByte_elapsed (s : State) (hrun : s.running = true) :
    (s.runByte .silence .silence).elapsed
      = if s.agent.settings.tickPeriod.clocks ≤ s.elapsed + 8 then 0 else s.elapsed + 8 := by
  obtain ⟨hbefore, hsettings⟩ := s.beforeGenerator_sameClock
  obtain ⟨hafter, -⟩ := s.beforeGenerator.advanceGenerator.withdrawPromotion_sameClock.trans
    (State.afterGenerator_sameClock _)
  rw [s.runByte_silence, hafter, State.advanceGenerator_clock _ (s.beforeGenerator_running hrun), hbefore, hsettings]

/-! ## A tick is blind to the field side (R87) -/

/-- What a byte time with silent lines moves beside the work of the tick: the H transmitter's gap, the field port, the
outbound queue and the promotion counter. -/
structure Beside where
  tx : TxSide
  line : List LineItem
  fPort : PortSides
  outbound : List OutboundFrame
  promotion : Nat

def State.with (s : State) (b : Beside) : State :=
  { s with
    hPort := ⟨s.hPort.rx, { b.tx with frame := s.hPort.tx.frame }, b.line⟩
    fPort := b.fPort
    promotion := b.promotion
    agent := { s.agent with outbound := b.outbound } }

/-- t is s but for the field side. -/
def State.DiffersBeside (s t : State) : Prop := ∃ b, t = s.with b

theorem State.DiffersBeside.refl (s : State) : s.DiffersBeside s :=
  ⟨⟨s.hPort.tx, s.hPort.line, s.fPort, s.agent.outbound, s.promotion⟩, rfl⟩

theorem State.DiffersBeside.trans {s t u : State} (h : s.DiffersBeside t) (k : t.DiffersBeside u) : s.DiffersBeside u := by
  obtain ⟨b, rfl⟩ := h
  obtain ⟨c, rfl⟩ := k
  exact ⟨c, rfl⟩

theorem State.withdrawPromotion_beside (s : State) : s.DiffersBeside s.withdrawPromotion := by
  unfold State.withdrawPromotion
  split_ifs
  · exact .refl s
  · exact ⟨⟨s.hPort.tx, s.hPort.line, s.fPort, s.agent.outbound, 0⟩, rfl⟩

theorem State.DiffersBeside.withdrawn {s t : State} (h : s.DiffersBeside t) : s.DiffersBeside t.withdrawPromotion :=
  h.trans t.withdrawPromotion_beside

theorem State.transmit_h_beside (s : State) (h : s.hPort.tx.frame = none) : s.DiffersBeside (s.transmit .h) := by
  rw [s.transmit_idle .h h]
  exact ⟨⟨s.hPort.tx.sendIdle, s.hPort.line, s.fPort, s.agent.outbound, s.promotion⟩, rfl⟩

theorem State.setTx_f_beside (s : State) (x : TxSide) : s.DiffersBeside (s.setTx .f x) :=
  ⟨⟨s.hPort.tx, s.hPort.line, { s.fPort with tx := x }, s.agent.outbound, s.promotion⟩, rfl⟩

theorem State.transmit_f_beside (s : State) : s.DiffersBeside (s.transmit .f) := by
  unfold State.transmit
  dsimp only
  split
  · rename_i x hx
    split_ifs
    · exact s.setTx_f_beside _
    · exact s.setTx_f_beside _
    · rw [State.transmissionComplete, s.fieldComplete_of_frame x hx]
      exact ⟨⟨s.hPort.tx, s.hPort.line, { s.fPort with tx := s.fPort.tx.endFrame }, s.releaseField, s.promotion⟩, rfl⟩
  · exact s.setTx_f_beside _

theorem State.fieldStart_beside (s : State) : s.DiffersBeside s.fieldStart := by
  unfold State.fieldStart
  split_ifs
  · split
    · exact .refl s
    · rename_i f rest hout
      exact ⟨⟨s.hPort.tx, s.hPort.line, { s.fPort with tx := s.fPort.tx.startFrame f.bytes .outbound },
        { f with taken := true } :: rest, s.promotion⟩, rfl⟩
  · exact .refl s

/-! Each part of a tick takes the field side with it as it stands. -/

theorem State.with_raise (s : State) (b : Beside) (ev : Event) : (s.with b).raise ev = (s.raise ev).with b := by
  unfold State.raise State.tally
  cases ev.subject <;> dsimp only <;> split_ifs <;> rfl

theorem State.with_makeStale (s : State) (b : Beside) (e : Nat) : (s.with b).makeStale e = (s.makeStale e).with b := by
  unfold State.makeStale
  rw [show (s.with b).staleReached e = s.staleReached e from rfl]
  split_ifs
  · exact State.with_raise (s.modifyRun e fun r => { r with condition := .stale, persistence := 0 }) b _
  · rfl

theorem State.with_foldl {α : Type} (f : State → α → State) (b : Beside)
    (h : ∀ (s : State) (a : α), f (s.with b) a = (f s a).with b) (l : List α) (s : State) :
    l.foldl f (s.with b) = (l.foldl f s).with b := by
  induction l generalizing s with
  | nil => rfl
  | cons a rest ih => rw [List.foldl_cons, h, ih, List.foldl_cons]

theorem State.with_finishStale (s : State) (b : Beside) : (s.with b).finishStale = s.finishStale.with b := by
  unfold State.finishStale
  rw [show (s.with b).staleDue = s.staleDue from rfl, State.with_foldl State.makeStale b
    (fun s e => s.with_makeStale b e) s.staleDue s]
  split_ifs <;> rfl

theorem State.with_forceIfDue (s : State) (b : Beside) : (s.with b).forceIfDue = s.forceIfDue.with b := by
  unfold State.forceIfDue
  rw [show (s.with b).forcingDue = s.forcingDue from rfl]
  split_ifs
  · have hcomplete : (s.with b).forceWaiting.completeCommit = (s.forceWaiting.completeCommit).with b :=
      State.with_raise { s.forceWaiting with commit := { s.forceWaiting.commit with pending := false, deadline := 0 } } b _
    rw [hcomplete]
    rfl
  · rfl

theorem State.with_expire (s : State) (b : Beside) (sequence : Byte) :
    (s.with b).expire sequence = (s.expire sequence).with b := by
  unfold State.expire
  rw [show (s.with b).report = s.report from rfl]
  split
  · rfl
  · rw [show (s.with b).agent.settings = s.agent.settings from rfl]
    split_ifs
    · rfl
    · simp only [State.loseFrames_eq]
      rfl

theorem State.with_finishTick (s : State) (b : Beside) : (s.with b).finishTick = s.finishTick.with b := by
  unfold State.finishTick
  rw [s.with_finishStale b, State.with_forceIfDue]
  exact State.with_foldl State.expire b (fun s e => s.with_expire b e) _ _

theorem State.with_deadlineStep (s : State) (b : Beside) : (s.with b).deadlineStep = s.deadlineStep.with b := by
  unfold State.deadlineStep
  rw [show (s.with b).commit = s.commit from rfl]
  split_ifs <;> rfl

/-- A tick of the generator ages first (R96). -/
theorem State.tick_agesFirst (s : State) :
    s.tick false = if s.running then ({ s with elapsed := 0 } : State).ageStep.deadlineStep.retryStep else s := by
  simp [State.tick]

theorem State.with_tick (s : State) (b : Beside) : (s.with b).tick false = (s.tick false).with b := by
  rw [State.tick_agesFirst, State.tick_agesFirst, show (s.with b).running = s.running from rfl]
  cases s.running
  · rfl
  · show ((({ s with elapsed := 0 } : State).ageStep.with b).deadlineStep).retryStep = _
    rw [State.with_deadlineStep]
    rfl

theorem State.with_advanceGenerator (s : State) (b : Beside) :
    (s.with b).advanceGenerator = s.advanceGenerator.with b := by
  unfold State.advanceGenerator
  rw [State.with_tick, State.with_finishTick]
  show (if s.agent.settings.tickPeriod.clocks ≤ s.elapsed + Config.clocksPerByte then _ else _) = _
  dsimp only
  split_ifs <;> rfl

theorem State.tick_sameOutside (s : State) :
    (s.tick false).hPort = s.hPort ∧ (s.tick false).inbound = s.inbound := by
  rw [State.tick_agesFirst]
  cases s.running
  · exact ⟨rfl, rfl⟩
  · simp

theorem State.advanceGenerator_outside (s : State) :
    s.advanceGenerator.hPort = s.hPort ∧ s.advanceGenerator.inbound = s.inbound := by
  obtain ⟨hport, hinbound, -, -⟩ := (s.tick false).finishTick_sameOutside
  obtain ⟨hport', hinbound'⟩ := s.tick_sameOutside
  unfold State.advanceGenerator
  dsimp only
  split_ifs
  · exact ⟨hport.trans hport', hinbound.trans hinbound'⟩
  · exact ⟨rfl, rfl⟩

/-! ## A byte time in which nothing but the tick happens -/

theorem State.receive_silence_of_down (s : State) (p : Port) (h : (s.port p).rx.state = .down) :
    s.receive p .silence = s := by
  show s.noSymbol p = s
  simp [State.noSymbol, h]

theorem State.beforeGenerator_beside (s : State) (hdone : s.tickDone = true) (hh : s.hPort.rx.state = .down)
    (hf : s.fPort.rx.state = .down) (hframe : s.hPort.tx.frame = none) : s.DiffersBeside s.beforeGenerator := by
  unfold State.beforeGenerator
  rw [s.finishTick_of_tickDone hdone,
    State.receive_silence_of_down _ .h (by show s.withdrawPromotion.hPort.rx.state = _; simpa using hh),
    State.receive_silence_of_down _ .f (by
      show s.withdrawPromotion.withdrawPromotion.fPort.rx.state = _; simpa using hf)]
  have hlines : s.DiffersBeside s.withdrawPromotion.withdrawPromotion.withdrawPromotion :=
    s.withdrawPromotion_beside.withdrawn.withdrawn
  exact (hlines.trans (State.transmit_h_beside _ (by simpa using hframe)).withdrawn).trans
    (State.transmit_f_beside _).withdrawn

theorem State.afterGenerator_beside (s : State) (hh : s.hPort.rx.state = .down)
    (hinbound : ∀ f ∈ s.inbound, f.state ≠ .pending) : s.DiffersBeside s.afterGenerator := by
  have hqualify : s.qualify = s := by
    have hnone : s.inbound.find? (·.state == .pending) = none := by simpa [List.find?_eq_none] using hinbound
    simp [State.qualify, hnone]
  unfold State.afterGenerator
  rw [hqualify]
  have hfield : s.DiffersBeside s.withdrawPromotion.fieldStart.withdrawPromotion :=
    s.withdrawPromotion_beside.trans (State.fieldStart_beside _).withdrawn
  have hgrant : s.withdrawPromotion.fieldStart.withdrawPromotion.grant = s.withdrawPromotion.fieldStart.withdrawPromotion := by
    refine State.grant_of_not_possible _ (State.grantPossible_of_unmet _ (.inr (.inr (.inr (.inr ?_)))))
    obtain ⟨b, hb⟩ := hfield
    rw [hb]
    show s.hPort.rx.state ≠ .up
    simp [hh]
  rw [hgrant]
  exact hfield.withdrawn

theorem State.runByte_beside (s : State) (hdone : s.tickDone = true) (hh : s.hPort.rx.state = .down)
    (hf : s.fPort.rx.state = .down) (hframe : s.hPort.tx.frame = none) (hinbound : ∀ f ∈ s.inbound, f.state ≠ .pending) :
    s.advanceGenerator.DiffersBeside (s.runByte .silence .silence) := by
  rw [s.runByte_silence]
  obtain ⟨b, hb⟩ := s.beforeGenerator_beside hdone hh hf hframe
  have hgenerator : s.advanceGenerator.DiffersBeside s.beforeGenerator.advanceGenerator.withdrawPromotion := by
    rw [hb, State.with_advanceGenerator]
    exact State.DiffersBeside.withdrawn ⟨b, rfl⟩
  refine hgenerator.trans (State.afterGenerator_beside _ ?_ ?_)
  · obtain ⟨c, hc⟩ := hgenerator
    rw [hc]
    show s.advanceGenerator.hPort.rx.state = .down
    rw [s.advanceGenerator_outside.1, hh]
  · obtain ⟨c, hc⟩ := hgenerator
    rw [hc]
    show ∀ f ∈ s.advanceGenerator.inbound, f.state ≠ .pending
    rw [s.advanceGenerator_outside.2]
    exact hinbound

/-- Settles O2: the generator's time by what each event keeps of it, the work of the tick because it is blind to all that
the other events of such a byte time move. -/
theorem byteTimeAdvancesTheTickGenerator : Obligations.ByteTimeAdvancesTheTickGenerator := by
  intro s hpending hrun hlineH hlineF
  obtain ⟨hpower, hrstn⟩ := s.running_iff.mp hrun
  have hbyte : s.byteTime = s.advanceLines.runByte .silence .silence := by
    simp [State.byteTime, hpower, hrstn, PortSides.next, hlineH, hlineF]
  refine ⟨s.byteTime, by rw [step, hpending], ?_, fun hdone hh hf hframe hinbound => ?_⟩
  · rw [hbyte]
    exact s.advanceLines.runByte_elapsed hrun
  obtain ⟨b, hb⟩ := s.advanceLines.runByte_beside hdone hh hf hframe hinbound
  have hlines : s.DiffersBeside s.advanceLines :=
    ⟨⟨s.hPort.tx, s.hPort.line.tail, { s.fPort with line := s.fPort.line.tail }, s.agent.outbound, s.promotion⟩, rfl⟩
  obtain ⟨c, hc⟩ := hlines
  rw [hbyte, hb, hc, State.with_advanceGenerator]
  refine ⟨fun hquiet => ?_, fun hdue u hu => ?_⟩
  · have hsame : s.advanceGenerator = { s with elapsed := s.elapsed + 8 } :=
      if_neg (Nat.not_le.mpr hquiet)
    rw [hsame]
    exact ⟨rfl, rfl, rfl, rfl⟩
  · have htick : s.advanceGenerator = (s.tick false).finishTick := if_pos hdue
    obtain rfl := Host.Outcome.next.inj
      ((takeClaim_of_tickDone (fun t => t.tick false) s hdone).symm.trans hu)
    obtain ⟨d, hd⟩ := (s.tick false).withdrawPromotion_beside
    rw [htick, hd, State.with_finishTick]
    exact ⟨rfl, rfl, rfl, rfl, (s.tick false).finishTick_tickDone⟩

end Sys2Proof.Machine
end

section
/-! SUPPORT. The commands of a tick: TICK at its three owners, STALE and DEADLINE_FORCING (chapter 6, R105, R106, R126). -/

namespace Sys2Proof.Machine

open Sys2Proof Relation

/-! ## The forcing (R106) -/

/-- A pending commit forced and completed, the groups handed the result. -/
def State.forced (s : State) : State := s.forceWaiting.completeCommit.handOver

theorem State.forceIfDue_of_due (s : State) (hpending : s.commit.pending = true) (hdeadline : s.commit.deadline = 0) :
    s.forceIfDue = s.forced := by
  simp [State.forceIfDue, State.forcingDue, hpending, hdeadline, State.forced]

theorem State.forced_eq (s : State) :
    s.forced =
      { s with
        table := s.forceWaiting.table
        commit := ⟨s.commit.generation, false, 0, s.waitingCount⟩
        report := { s.report with
          queue := placeEvent s.commit.generation
            ⟨.commit, .commitDone, .routine, s.commit.generation, none, some s.waitingCount⟩ s.report.queue }
        groups := s.forced.groups } := rfl

@[simp] theorem State.forced_map (s : State) : s.forced.map = s.map := by simp [State.forced]
@[simp] theorem State.forced_agent (s : State) : s.forced.agent = s.agent := by simp [State.forced]
@[simp] theorem State.forced_inbound (s : State) : s.forced.inbound = s.inbound := by simp [State.forced]
@[simp] theorem State.forced_hPort (s : State) : s.forced.hPort = s.hPort := by simp [State.forced]
@[simp] theorem State.forced_fPort (s : State) : s.forced.fPort = s.fPort := by simp [State.forced]

theorem State.forced_entry (s : State) (e : Nat) :
    s.forced.entry e = if (s.entry e).run.waiting then s.switchedEntry true e (s.entry e) else s.entry e := by
  have htable : s.forced.table = s.forceWaiting.table := by rw [s.forced_eq]
  rw [State.entry_congr _ _ e htable]
  by_cases h : e < s.table.length
  · exact s.forceWaiting_entry e h
  · have hlength : s.forceWaiting.table.length = s.table.length := s.switchEntries_length _ _
    rw [State.entry_of_le _ _ (by omega), State.entry_of_le s e (by omega)]
    rfl

theorem State.forced_handsOver (s : State) (h : s.groups.length = 4) : s.handsOver s.forced :=
  s.handsOver_of s.forceWaiting.completeCommit s.forced h (by simp) (by simp) rfl rfl rfl

/-- The groups of a state show what it hands over in any state that shares the groups, the map and the table. -/
theorem State.handsOver_congr (s t u : State) (h : s.handsOver t) (hgroups : u.groups = t.groups) (hmap : u.map = t.map)
    (htable : u.table = t.table) : s.handsOver u := by
  intro g hg
  rw [show u.group g = t.group g by rw [State.group, State.group, hgroups], t.trippingSet_of_table u g hmap htable]
  exact h g hg

theorem State.withdrawPromotion_handsOver (s t : State) (h : s.handsOver t) : s.handsOver t.withdrawPromotion :=
  s.handsOver_congr t _ h (by simp) (by simp) (by simp)

theorem State.withdrawPromotion_entry (s : State) (e : Nat) : s.withdrawPromotion.entry e = s.entry e :=
  s.entry_congr _ e (by simp)

theorem exec_deadlineForcing (s : State) (hdue : s.staleDue = []) (hpending : s.commit.pending = true)
    (hdeadline : s.commit.deadline = 0) : exec .deadlineForcing s = .next s.forced.withdrawPromotion := by
  show takeNow (fun t => t.finishStale.forceIfDue) s = _
  rw [takeNow, show s.finishStale = s by simp [State.finishStale, hdue], s.forceIfDue_of_due hpending hdeadline]

/-- Settles O40. -/
theorem deadlineForcesEveryWaitingEntry : Obligations.DeadlineForcesEveryWaitingEntry := by
  intro s hdue hpending hdeadline hlength hfour forced
  have hcount : s.waitingCount = forced := by rw [s.waitingCount_eq, hlength]
  refine ⟨_, exec_deadlineForcing s hdue hpending hdeadline, fun e _ hwaits => ?_, fun e hstays => ?_, ?_, ?_,
    s.withdrawPromotion_handsOver _ (s.forced_handsOver hfour), by simp, by simp, by simp⟩
  · rw [State.withdrawPromotion_entry, s.forced_entry, if_pos hwaits]
    exact s.switchedEntry_switchedTo true e (s.entry e)
  · rw [State.withdrawPromotion_entry, s.forced_entry, if_neg (by simp [hstays])]
  · rw [State.withdrawPromotion_commit, s.forced_eq, ← hcount]
  · rw [State.withdrawPromotion_report, s.forced_eq, ← hcount]

/-! ## STALE (R92) -/

/-- The entry as the claim of a tick makes it STALE, with the STALE event counted. -/
theorem State.makeStale_entry_self (s : State) (e : Nat) (hreached : s.staleReached e = true) (h : e < s.table.length) :
    (s.makeStale e).entry e =
      { s.entry e with run := { (s.entry e).run with
          condition := .stale, persistence := 0, tally := min 255 ((s.entry e).run.tally + 1), lastKind := some .stale } } := by
  rw [State.makeStale, if_pos hreached, State.raiseChannel_entry_self _ e _ _ (by simpa using h),
    s.modifyRun_entry_self e _ h]
  rfl

theorem State.makeStale_entry_other (s : State) (e i : Nat) (h : i ≠ e) : (s.makeStale e).entry i = s.entry i := by
  unfold State.makeStale
  split_ifs
  · rw [State.raiseChannel_entry_other _ e i _ _ h, s.modifyRun_entry_other e i _ h]
  · rfl

theorem State.makeStale_report (s : State) (e : Nat) (hreached : s.staleReached e = true) (h : e < s.table.length) :
    (s.makeStale e).report =
      { s.report with
        queue :=
          if (s.entry e).live.staleClass = .silent then s.report.queue
          else placeEvent s.commit.generation
            ⟨.entry e, .stale, (s.entry e).live.staleClass, (s.entry e).run.generation, none, none⟩ s.report.queue } := by
  rw [State.makeStale, if_pos hreached, State.raiseChannel_eq, s.modifyRun_entry_self e _ h]
  rfl

/-- The first entry of an ascending tick claim is taken alone (R92). -/
theorem State.staleUpTo_first (s : State) (e : Nat) (rest : List Nat) (hdue : s.staleDue = e :: rest)
    (hrest : ∀ i ∈ rest, e < i) :
    s.staleUpTo e =
      if rest.isEmpty then { s.makeStale e with staleDue := rest }.handOver else { s.makeStale e with staleDue := rest } := by
  have hnow : (e :: rest).takeWhile (fun i => i ≤ e) = [e] := by
    rw [List.takeWhile_cons_of_pos (by simp)]
    cases rest with
    | nil => rfl
    | cons i later => simp [hrest i (by simp)]
  have hlater : (e :: rest).dropWhile (fun i => i ≤ e) = rest := by
    rw [List.dropWhile_cons_of_pos (by simp)]
    cases rest with
    | nil => rfl
    | cons i later => simp [hrest i (by simp)]
  unfold State.staleUpTo
  rw [hdue, hnow, hlater]
  rfl

/-- Settles O39. -/
theorem staleEntryRaisesStale : Obligations.StaleEntryRaisesStale := by
  intro s e rest hdue hrest hreached hlength he hfour
  have hin : e < s.table.length := hlength ▸ he
  have hexec : exec (.stale e) s = .next (s.staleUpTo e).withdrawPromotion := by
    show takeNow (fun t => if t.staleDue.contains e then t.staleUpTo e else t) s = _
    rw [takeNow, if_pos (by simp [hdue])]
  have hself := s.makeStale_entry_self e hreached hin
  have hreport := s.makeStale_report e hreached hin
  refine ⟨_, hexec, ?_⟩
  have hclaim : ∀ t : State, t.table = (s.makeStale e).table → t.report = (s.makeStale e).report → t.staleDue = rest →
      t.commit = s.commit → t.map = s.map → t.agent = s.agent → t.inbound = s.inbound →
      (rest ≠ [] → t.groups = s.groups) → (rest = [] → s.handsOver t) →
      (t.entry e).run = { (s.entry e).run with
          condition := .stale, persistence := 0, tally := min 255 ((s.entry e).run.tally + 1), lastKind := some .stale }
      ∧ (t.entry e).live = (s.entry e).live ∧ (t.entry e).staging = (s.entry e).staging
      ∧ (∀ i, i ≠ e → t.entry i = s.entry i)
      ∧ t.report.queue = (if (s.entry e).live.staleClass = .silent then s.report.queue
          else placeEvent s.commit.generation
            ⟨.entry e, .stale, (s.entry e).live.staleClass, (s.entry e).run.generation, none, none⟩ s.report.queue)
      ∧ t.report.unacked = s.report.unacked ∧ t.staleDue = rest ∧ t.commit = s.commit ∧ t.map = s.map ∧ t.agent = s.agent
      ∧ t.inbound = s.inbound
      ∧ (rest ≠ [] → t.groups = s.groups)
      ∧ (rest = [] → s.handsOver t) := by
    intro t htable htreport hstale hcommit hmap hagent hinbound hgroups hover
    rw [State.entry_congr _ t e htable, hself, htreport, hreport]
    exact ⟨rfl, rfl, rfl, fun i hi => by rw [State.entry_congr _ t i htable, s.makeStale_entry_other e i hi], rfl, rfl,
      hstale, hcommit, hmap, hagent, hinbound, hgroups, hover⟩
  rw [s.staleUpTo_first e rest hdue hrest]
  cases rest with
  | nil =>
    refine hclaim _ (by simp) (by simp) (by simp) (by simp) (by simp) (by simp) (by simp) (fun h => absurd rfl h) fun _ =>
      s.withdrawPromotion_handsOver _ (s.handsOver_of { s.makeStale e with staleDue := [] } _ hfour (by simp) (by simp)
        rfl rfl rfl)
  | cons i later =>
    exact hclaim _ (by simp) (by simp) (by simp) (by simp) (by simp) (by simp) (by simp) (fun _ => by simp)
      fun h => by simp at h

/-! ## TICK at its three owners (R90, R105, R126) -/

/-- The tick with the aging first, as the state it leaves. -/
theorem State.tick_false_eq (s : State) (hrun : s.running = true) :
    s.tick false =
      { s with
        elapsed := 0
        table := s.ageEntries.table
        staleDue := s.ageStep.staleDue
        commit := s.deadlineStep.commit
        report := { s.report with unacked := s.report.unacked.map s.frameTicked } } := by
  rw [s.tick_agesFirst, if_pos hrun]
  have hdeadline : ({ s with elapsed := 0 } : State).ageStep.deadlineStep
      = { ({ s with elapsed := 0 } : State).ageStep with commit := s.deadlineStep.commit } := by
    unfold State.deadlineStep
    rw [show ({ s with elapsed := 0 } : State).ageStep.commit = s.commit from rfl]
    split_ifs <;> rfl
  rw [hdeadline]
  rfl

theorem State.deadlineStep_commit (s : State) :
    s.deadlineStep.commit
      = { s.commit with deadline := if s.commit.pending then s.commit.deadline - 1 else s.commit.deadline } := by
  unfold State.deadlineStep
  split_ifs <;> rfl

theorem State.ageStep_entry (s : State) (e : Nat) (h : e < s.table.length) : s.ageStep.entry e = s.entryAged e :=
  s.ageEntries_entry e h

/-- The aging and the deadline step touch different fields (R96). -/
theorem State.deadlineStep_ageStep (s : State) : s.deadlineStep.ageStep = s.ageStep.deadlineStep := by
  unfold State.deadlineStep
  rw [show s.ageStep.commit = s.commit from rfl]
  split_ifs <;> rfl

/-- What the aging reads of a state: the map and the table. -/
theorem State.entryAged_congr (s t : State) (e : Nat) (hmap : t.map = s.map) (htable : t.table = s.table) :
    t.entryAged e = s.entryAged e := by
  have hentry : ∀ i, t.entry i = s.entry i := fun i => s.entry_congr t i htable
  simp [State.entryAged, hentry, s.watched_congr t e hmap fun i => by rw [hentry]]

theorem State.atLimit_congr (s t : State) (hmap : t.map = s.map) (htable : t.table = s.table) : t.atLimit = s.atLimit := by
  have hentry : ∀ i, t.entry i = s.entry i := fun i => s.entry_congr t i htable
  have hwatched : ∀ i, t.watched i = s.watched i := fun i => s.watched_congr t i hmap fun j => by rw [hentry]
  simp [State.atLimit, hentry, hwatched]

/-- The state that the deadline step leaves where the deadline runs out. -/
theorem State.deadlineStep_runsOut (s : State) (hpending : s.commit.pending = true) (hdeadline : s.commit.deadline ≤ 1) :
    s.deadlineStep = { s with commit := { s.commit with deadline := 0 } } := by
  have hzero : s.commit.deadline - 1 = 0 := by omega
  simp [State.deadlineStep, hpending, hzero]

/-- A state that the forcing has left, after the aging and the retry step that follow it. -/
def State.agedAfter (s : State) : State := ({ s with elapsed := 0 } : State).ageStep.retryStep

theorem State.agedAfter_eq (s : State) :
    s.agedAfter =
      { s with
        elapsed := 0
        table := s.ageEntries.table
        staleDue := s.ageStep.staleDue
        report := { s.report with unacked := s.report.unacked.map s.frameTicked } } := rfl

/-- What the retry step reads of a state beside the frame: the H transmission and the retry interval. -/
theorem State.frameTicked_congr (s t : State) (hport : t.hPort = s.hPort) (hagent : t.agent = s.agent) :
    t.frameTicked = s.frameTicked := by
  funext f
  simp [State.frameTicked, State.sendingReport, hport, hagent]

theorem State.tick_true_eq (s : State) (hrun : s.running = true) (hpending : s.commit.pending = true)
    (hdeadline : s.commit.deadline ≤ 1) :
    s.tick true =
      ({ s with commit := { s.commit with deadline := 0 } } : State).forced.agedAfter := by
  have htick : s.tick true = ({ s with elapsed := 0 } : State).deadlineStep.forceIfDue.ageStep.retryStep := by
    simp [State.tick, hrun]
  have hforced := State.forceIfDue_of_due { s with elapsed := 0, commit := { s.commit with deadline := 0 } } hpending rfl
  rw [htick, State.deadlineStep_runsOut { s with elapsed := 0 } hpending hdeadline]
  exact congrArg (fun t : State => t.ageStep.retryStep) hforced

theorem State.staleDue_of_tickDone (s : State) (h : s.tickDone = true) : s.staleDue = [] := by
  unfold State.tickDone at h
  simp only [Bool.and_eq_true, List.isEmpty_iff] at h
  exact h.1.1

/-- Settles O38: the aging first as one equation; the deadline first through the forcing of the state with deadline 0. -/
theorem tickReachesItsThreeOwners : Obligations.TickReachesItsThreeOwners := by
  have hexec : ∀ (s : State) (b : Bool), s.tickDone = true → exec (.tick b) s = .next (s.tick b).withdrawPromotion :=
    fun s b hdone => takeClaim_of_tickDone (fun t => t.tick b) s hdone
  refine ⟨fun s hdone hrun hlength => ⟨_, hexec s false hdone, ?_⟩, fun s hdone hrun hstays => ?_,
    fun s hdone hrun hlength hfour hpending hdeadline => ?_, fun s b hdone hrun => ?_⟩
  · rw [s.tick_false_eq hrun]
    refine ⟨by simp, fun e he => ?_, (State.withdrawPromotion_staleDue _).trans (s.ageStep_staleDue hlength), by simp [s.deadlineStep_commit], by simp,
      by simp, by simp, by simp, by simp, by simp, by simp, by simp, by simp⟩
    rw [State.withdrawPromotion_entry]
    exact s.ageStep_entry e (hlength ▸ he)
  · have hforce := ({ s with elapsed := 0 } : State).deadlineStep_forceIfDue hstays
    have hsame : s.tick true = s.tick false := by
      rw [s.tick_agesFirst, if_pos hrun, ← State.deadlineStep_ageStep]
      simp [State.tick, hrun, hforce]
    rw [hexec s true hdone, hexec s false hdone, hsame]
  · let r : State := { s with commit := { s.commit with deadline := 0 } }
    have hforcing : exec .deadlineForcing r = .next r.forced.withdrawPromotion :=
      exec_deadlineForcing r (s.staleDue_of_tickDone hdone) hpending rfl
    refine ⟨_, _, hforcing, hexec s true hdone, ?_⟩
    rw [s.tick_true_eq hrun hpending hdeadline]
    have hlength' : r.forced.table.length = 96 := by
      rw [r.forced_eq]
      exact (r.switchEntries_length _ _).trans hlength
    have hframes : r.forced.frameTicked = s.frameTicked := s.frameTicked_congr _ (by simp [r]) (by simp [r])
    have hunacked : r.forced.report.unacked = s.report.unacked := by rw [r.forced_eq]
    have hsequence : r.forced.report.nextSequence = s.report.nextSequence := by rw [r.forced_eq]
    show (State.withdrawPromotion r.forced.agedAfter).elapsed = 0 ∧ _
    rw [r.forced.agedAfter_eq, hunacked, hframes]
    refine ⟨by simp, fun e he => ?_, ?_, by simp, by simp, by simp, by simpa using hsequence, by simp, by simp [r],
      by simp [r], by simp [r], by simp [r], by simp [r]⟩
    · rw [State.withdrawPromotion_entry, State.entryAged_congr r.forced _ e (by simp) (by simp)]
      exact r.forced.ageStep_entry e (hlength' ▸ he)
    · rw [State.atLimit_congr r.forced _ (by simp) (by simp), State.withdrawPromotion_staleDue]
      exact r.forced.ageStep_staleDue hlength'
  · have htick : s.tick b = s := by simp [State.tick, hrun]
    rw [hexec s b hdone, htick]

end Sys2Proof.Machine
end

section
/-! SUPPORT. Values held to the width (R49, R53), and the duty of a schedule period (R75). -/

namespace Sys2Proof.Machine

open Sys2Proof Relation

/-! ## Raw and evaluated values (R49, R53) -/

theorem pairValue_eq (lower upper : Half) : pairValue lower upper = (upper ++ lower : BitVec 32).toInt := by
  have happend := BitVec.toInt_append (x := upper) (y := lower)
  rw [if_neg (by decide)] at happend
  rw [happend, pairValue]
  omega

theorem pairValue_range (lower upper : Half) : -2147483648 ≤ pairValue lower upper ∧ pairValue lower upper ≤ 2147483647 := by
  have hupper := upper.isLt
  have hlower := lower.isLt
  have hhigh := BitVec.toInt_lt (x := upper)
  have hlow := BitVec.le_toInt (x := upper)
  simp only [pairValue]
  omega

theorem ConfigRecord.width_pair (r : ConfigRecord) (h : r.pair = true) :
    r.widthMax = 2147483647 ∧ r.widthMin = -2147483648 := by
  simp [ConfigRecord.widthMin, ConfigRecord.widthMax, h]

theorem ConfigRecord.width_single (r : ConfigRecord) (h : r.pair = false) :
    r.widthMax = 32767 ∧ r.widthMin = -32768 := by
  simp [ConfigRecord.widthMin, ConfigRecord.widthMax, h]

theorem ConfigRecord.widthMin_le_widthMax (r : ConfigRecord) : r.widthMin ≤ r.widthMax := by
  cases h : r.pair with
  | true => obtain ⟨hmax, hmin⟩ := r.width_pair h; omega
  | false => obtain ⟨hmax, hmin⟩ := r.width_single h; omega

/-- The evaluated value is the value clamped between the ends of the width (R53). -/
theorem ConfigRecord.evaluated_cases (r : ConfigRecord) (raw : Int) :
    (r.widthMin ≤ raw + r.offset → raw + r.offset ≤ r.widthMax → r.evaluated raw = raw + r.offset)
      ∧ (r.widthMax < raw + r.offset → r.evaluated raw = r.widthMax)
      ∧ (raw + r.offset < r.widthMin → r.evaluated raw = r.widthMin) := by
  have hwidth := r.widthMin_le_widthMax
  simp only [ConfigRecord.evaluated]
  omega

/-- Settles O29. -/
theorem evaluatedValueSaturatesToTheWidth : Obligations.EvaluatedValueSaturatesToTheWidth := by
  refine ⟨fun lower upper => ⟨pairValue_eq lower upper, pairValue_range lower upper⟩, fun r raw => ?_⟩
  obtain ⟨hin, habove, hbelow⟩ := r.evaluated_cases raw
  have hwidth := r.widthMin_le_widthMax
  refine ⟨?_, fun h => ?_, fun hp h => ?_, fun hp h => ?_, fun hp h => ?_, fun hp h => ?_⟩
  · rw [ConfigRecord.inWidth_iff, ConfigRecord.evaluated]
    omega
  · obtain ⟨hmin, hmax⟩ := (r.inWidth_iff _).mp h
    exact hin hmin hmax
  · obtain ⟨hmax, -⟩ := r.width_single hp
    rw [habove (by omega), hmax]
  · obtain ⟨-, hmin⟩ := r.width_single hp
    rw [hbelow (by omega), hmin]
  · obtain ⟨hmax, -⟩ := r.width_pair hp
    rw [habove (by omega), hmax]
  · obtain ⟨-, hmin⟩ := r.width_pair hp
    rw [hbelow (by omega), hmin]

/-! ## The duty of a period (R73, R74, R75) -/

theorem ConfigRecord.forwards_within (r : ConfigRecord) (p : Nat) (tag : Tag) (raised : Bool) (h : p < r.duty) :
    r.forwards p tag raised = true := by
  simp [ConfigRecord.forwards, h]

theorem ConfigRecord.forwards_beyond (r : ConfigRecord) (p : Nat) (tag : Tag) (raised : Bool) (h : r.duty ≤ p) :
    r.forwards p tag raised = ((r.alarmBurst && (tag == .high || tag == .low)) || raised) := by
  simp [ConfigRecord.forwards, Nat.not_lt.mpr h]

/-- Neither an alarm tag nor an event: the duty alone decides. -/
theorem ConfigRecord.forwards_quiet (r : ConfigRecord) (p : Nat) (tag : Tag) (h : tag = .normal ∨ tag = .unevaluated) :
    r.forwards p tag false = decide (p < r.duty) := by
  rcases h with rfl | rfl <;> simp [ConfigRecord.forwards]

theorem countP_range_lt (k n : Nat) : (List.range n).countP (fun p => decide (p < k)) = min k n := by
  induction n with
  | zero => simp
  | succ n ih =>
    rw [List.range_succ, List.countP_append, ih, List.countP_singleton]
    simp only [decide_eq_true_eq]
    split_ifs <;> omega

theorem ConfigRecord.advance_mod (r : ConfigRecord) (n : Nat) (h : 1 ≤ r.period) :
    r.advance (n % r.period) = (n + 1) % r.period := by
  have hlt := Nat.mod_lt n h
  rw [← Nat.mod_add_mod, ConfigRecord.advance]
  split_ifs with hlast
  · rw [hlast, Nat.mod_self]
  · exact (Nat.mod_eq_of_lt (by omega)).symm

theorem ConfigRecord.advance_iterate (r : ConfigRecord) (n : Nat) (h : 1 ≤ r.period) :
    r.advance^[n] 0 = n % r.period := by
  induction n with
  | zero => simp
  | succ n ih => rw [Function.iterate_succ_apply', ih, r.advance_mod n h]

/-- An invalid arrival at an entry that is not STALE leaves the condition, and is counted by the period (R61, R72). -/
theorem ConfigRecord.runAfter_invalid (r : ConfigRecord) (x : RunState) (h : x.condition ≠ .stale) :
    (r.runAfter x none).condition = x.condition
      ∧ r.keeps x none = decide (x.position < r.duty) := by
  have hverdict : r.verdictOf x none = ⟨x.condition, x.persistence, []⟩ := by simp [ConfigRecord.verdictOf, h]
  refine ⟨by simp [ConfigRecord.runAfter, hverdict], ?_⟩
  rw [ConfigRecord.keeps, hverdict]
  exact r.forwards_quiet _ _ (.inr rfl)

theorem ConfigRecord.runAfter_position (r : ConfigRecord) (x : RunState) (raw : Option Int) :
    (r.runAfter x raw).position = r.advance x.position := rfl

/-- The position and the condition after n invalid arrivals that find the period at its start. -/
theorem ConfigRecord.invalid_iterate (r : ConfigRecord) (x : RunState) (n : Nat) (hperiod : 1 ≤ r.period)
    (hstart : x.position = 0) :
    ((fun y => r.runAfter y none)^[n] x).position = n % r.period
      ∧ (x.condition ≠ .stale → ((fun y => r.runAfter y none)^[n] x).condition = x.condition) := by
  induction n with
  | zero => simp [hstart]
  | succ n ih =>
    obtain ⟨hposition, hcondition⟩ := ih
    rw [Function.iterate_succ_apply']
    refine ⟨by rw [r.runAfter_position, hposition, r.advance_mod n hperiod], fun hfresh => ?_⟩
    have hsame := hcondition hfresh
    obtain ⟨hkept, -⟩ := r.runAfter_invalid _ (by rwa [hsame])
    exact hkept.trans hsame

/-- Settles O33: the positions of a period run from 0, and the duty forwards those below W. -/
theorem scheduleKeepsTheDutyOfEachPeriod : Obligations.ScheduleKeepsTheDutyOfEachPeriod := by
  refine ⟨fun r hperiod => ⟨fun hzero p tag raised => r.forwards_beyond p tag raised (by omega),
      fun hfull p hp tag raised => r.forwards_within p tag raised (by omega),
      fun p hp tag raised => r.forwards_within p tag raised hp,
      fun p tag raised hp => r.forwards_beyond p tag raised hp, ?_, fun p tag raised hquiet => ?_,
      fun n => r.advance_iterate n hperiod⟩,
    fun tag raised => ConfigRecord.forwards_within _ 0 tag raised Nat.one_pos, fun x => rfl,
    fun r x hperiod hstart => ⟨fun n => (r.invalid_iterate x n hperiod hstart).1, fun hidle n => ?_, fun hfresh => ?_⟩⟩
  · rw [← countP_range_lt r.duty r.period]
    exact List.countP_congr fun p _ => by rw [r.forwards_quiet p _ (.inl rfl)]
  · rw [r.forwards_quiet p _ (.inl rfl)] at hquiet
    exact r.forwards_within p tag raised (of_decide_eq_true hquiet)
  · obtain ⟨-, hsame⟩ := r.invalid_iterate x n hperiod hstart
    exact (hsame (by simp [hidle])).trans hidle
  · rw [← countP_range_lt r.duty r.period]
    refine List.countP_congr fun n hn => ?_
    obtain ⟨hposition, hsame⟩ := r.invalid_iterate x n hperiod hstart
    obtain ⟨-, hkeeps⟩ := r.runAfter_invalid ((fun y => r.runAfter y none)^[n] x) (by rwa [hsame hfresh])
    rw [hkeeps, hposition, Nat.mod_eq_of_lt (List.mem_range.mp hn)]

end Sys2Proof.Machine
end

section
/-! SUPPORT. Fields and their bytes: the records of Tables 19 and 20 read back as written (R25), and the CRC (R19). -/

namespace Sys2Proof.Machine

open Sys2Proof Relation

/-! ## Bits and fields of a byte -/

theorem getLsbD_eq_decide (b : Byte) (k : Nat) : b.getLsbD k = decide (b.toNat / 2 ^ k % 2 = 1) :=
  Nat.testBit_eq_decide_div_mod_eq

theorem flagBit_eq (set : Bool) (place : Nat) : flagBit set place = set.toNat * 2 ^ place := by
  cases set <;> simp [flagBit]

theorem toNat_decide_bit (n : Nat) : (decide (n % 2 = 1)).toNat = n % 2 := by
  rcases Nat.mod_two_eq_zero_or_one n with h | h <;> simp [h]

/-- A flag read from a byte is worth the bit at its place. -/
theorem flagBit_getLsbD (b : Byte) (k : Nat) : flagBit (b.getLsbD k) k = b.toNat / 2 ^ k % 2 * 2 ^ k := by
  rw [flagBit_eq, getLsbD_eq_decide, toNat_decide_bit]

theorem extract_toNat (b : Byte) (start len : Nat) : (b.extractLsb' start len).toNat = b.toNat / 2 ^ start % 2 ^ len := by
  rw [BitVec.extractLsb'_toNat, Nat.shiftRight_eq_div_pow]

theorem ofNat_eq_of_toNat (b : Byte) (n : Nat) (h : n = b.toNat) : BitVec.ofNat 8 n = b := by
  rw [h, BitVec.ofNat_toNat, BitVec.setWidth_eq]

/-- A byte formed of a number has a bit set where the number has it. -/
theorem getLsbD_ofNat (n k : Nat) (set : Bool) (h : n % 256 / 2 ^ k % 2 = set.toNat) :
    (BitVec.ofNat 8 n).getLsbD k = set := by
  rw [getLsbD_eq_decide, BitVec.toNat_ofNat, h]
  cases set <;> rfl

theorem halfBytes_halfOf (hi lo : Byte) : halfBytes (halfOf hi lo) = [hi, lo] := by
  have hhi : (hi ++ lo : BitVec 16).extractLsb' 8 8 = hi :=
    BitVec.extractLsb'_append_eq_left
  have hlo : (hi ++ lo : BitVec 16).extractLsb' 0 8 = lo :=
    BitVec.extractLsb'_append_eq_right
  simp only [halfBytes, halfOf]
  rw [hhi, hlo]

theorem wordOf_toNat (a b c d : Byte) :
    (wordOf a b c d).toNat = 16777216 * a.toNat + 65536 * b.toNat + 256 * c.toNat + d.toNat := by
  have happend : ∀ (n : Nat) (x : BitVec n) (y : Byte), (x ++ y).toNat = 256 * x.toNat + y.toNat := fun n x y => by
    rw [BitVec.toNat_append, ← Nat.shiftLeft_add_eq_or_of_lt y.isLt, Nat.shiftLeft_eq]
    omega
  rw [wordOf, happend, happend, happend]
  omega

theorem wordBytes_wordOf (a b c d : Byte) : wordBytes (wordOf a b c d) = [a, b, c, d] := by
  have hbyte : ∀ (k : Nat) (x : Byte), (wordOf a b c d).toNat / 2 ^ k % 256 = x.toNat →
      (wordOf a b c d).extractLsb' k 8 = x := fun k x h => BitVec.eq_of_toNat_eq (by
    rw [BitVec.extractLsb'_toNat, Nat.shiftRight_eq_div_pow]
    exact h)
  have ha := a.isLt
  have hb := b.isLt
  have hc := c.isLt
  have hd := d.isLt
  rw [wordBytes, hbyte 24 a (by rw [wordOf_toNat]; omega), hbyte 16 b (by rw [wordOf_toNat]; omega),
    hbyte 8 c (by rw [wordOf_toNat]; omega), hbyte 0 d (by rw [wordOf_toNat]; omega)]

theorem intBytes_toInt (w : BitVec 32) : intBytes w.toInt = wordBytes w := by
  rw [intBytes, BitVec.ofInt_toInt]

theorem natBytes_toNat (w : Half) : natBytes w.toNat = halfBytes w := by
  rw [natBytes, BitVec.ofNat_toNat, BitVec.setWidth_eq]

/-- A signed field reads back, where its value fits 32 bits. -/
theorem wordOf_intBytes (v : Int) (hlow : -2147483648 ≤ v) (hhigh : v ≤ 2147483647) :
    (wordOf (byteAt (intBytes v) 0) (byteAt (intBytes v) 1) (byteAt (intBytes v) 2) (byteAt (intBytes v) 3)).toInt = v := by
  have hword : wordOf (byteAt (intBytes v) 0) (byteAt (intBytes v) 1) (byteAt (intBytes v) 2) (byteAt (intBytes v) 3)
      = BitVec.ofInt 32 v := wordOf_extract _
  rw [hword, BitVec.toInt_ofInt_eq_self (by decide) (by omega) (by omega)]

/-- A number field of two bytes reads back. -/
theorem halfOf_natBytes_toNat (n : Nat) (h : n ≤ 65535) :
    (halfOf (byteAt (natBytes n) 0) (byteAt (natBytes n) 1)).toNat = n := by
  have hhalf : halfOf (byteAt (natBytes n) 0) (byteAt (natBytes n) 1) = BitVec.ofNat 16 n := halfOf_extract _
  rw [hhalf, BitVec.toNat_ofNat, Nat.mod_eq_of_lt (by omega)]

theorem map_byteAt (bytes : List Byte) (n : Nat) (h : bytes.length = n) : (List.range n).map (byteAt bytes) = bytes := by
  refine List.ext_getElem (by simp [h]) fun i hi hi' => ?_
  simp [byteAt, List.getD_eq_getElem?_getD, hi']

/-! ## Codes of the classes and tick periods (Table 18) -/

theorem EventClass.code_of_ofCode (n : Nat) (c : EventClass) (h : EventClass.ofCode n = some c) : c.code = n := by
  unfold EventClass.ofCode at h
  split at h
  · cases h; rfl
  · cases h; rfl
  · cases h; rfl
  · simp at h

theorem EventClass.ofCode_code (c : EventClass) : EventClass.ofCode c.code = some c := by cases c <;> rfl

theorem EventClass.code_le (c : EventClass) : c.code ≤ 2 := by cases c <;> decide

theorem EventClass.ofCode_eq_none (n : Nat) : EventClass.ofCode n = none ↔ 2 < n := by
  rcases n with _ | _ | _ | n <;> simp [EventClass.ofCode]

theorem TickPeriod.code_of_ofCode (b : Byte) (p : TickPeriod) (h : TickPeriod.ofCode b.toNat = some p) : p.code = b := by
  refine BitVec.eq_of_toNat_eq ?_
  unfold TickPeriod.ofCode at h
  split at h
  · rename_i hb; cases h; exact hb.symm
  · rename_i hb; cases h; exact hb.symm
  · rename_i hb; cases h; exact hb.symm
  · rename_i hb; cases h; exact hb.symm
  · simp at h

theorem TickPeriod.ofCode_code (p : TickPeriod) : TickPeriod.ofCode p.code.toNat = some p := by cases p <;> rfl

theorem TickPeriod.ofCode_eq_none (n : Nat) : TickPeriod.ofCode n = none ↔ 3 < n := by
  rcases n with _ | _ | _ | _ | n <;> simp [TickPeriod.ofCode]

/-! ## Configuration records (Table 19) -/

/-- The trip byte's group field as its two parts are written (Table 19). -/
def tripGroupCode : Option Nat → Nat
  | some g => 128 + g
  | none => 0

theorem tripGroupCode_of_byte (b : Byte) (h : b.getLsbD 7 = false → b.extractLsb' 0 2 = 0) :
    tripGroupCode (tripGroupOf b) = b.toNat / 128 % 2 * 128 + b.toNat % 4 := by
  have hgroup := extract_toNat b 0 2
  have hmember := getLsbD_eq_decide b 7
  unfold tripGroupOf
  cases hb : b.getLsbD 7 with
  | true =>
    have hset : b.toNat / 128 % 2 = 1 := of_decide_eq_true (hmember.symm.trans hb)
    simp only [if_true, tripGroupCode, hgroup]
    omega
  | false =>
    have hclear : ¬b.toNat / 128 % 2 = 1 := of_decide_eq_false (hmember.symm.trans hb)
    have hzero : b.toNat % 4 = 0 := by
      rw [h hb] at hgroup
      simpa using hgroup.symm
    simp only [Bool.false_eq_true, if_false, tripGroupCode]
    omega

theorem tripGroupOf_ofNat (group : Option Nat) (n : Nat) (hn : n < 128) (hfour : n % 4 = 0) (hgroup : ∀ g ∈ group, g < 4) :
    tripGroupOf (BitVec.ofNat 8 (tripGroupCode group + n)) = group := by
  unfold tripGroupOf
  rw [extract_toNat, BitVec.toNat_ofNat]
  cases group with
  | none =>
    rw [getLsbD_ofNat _ 7 false (by simp only [tripGroupCode, Bool.toNat_false]; omega)]
    rfl
  | some g =>
    have hg : g < 4 := hgroup g rfl
    rw [getLsbD_ofNat _ 7 true (by simp only [tripGroupCode, Bool.toNat_true]; omega)]
    simp only [tripGroupCode, if_true, Option.some.injEq]
    omega

/-- The bytes of a record, with its trip group coded apart. -/
theorem ConfigRecord.bytes_eq (r : ConfigRecord) :
    r.bytes = [BitVec.ofNat 8 (flagBit r.enable 0 + flagBit r.pair 1 + flagBit r.highCheck 2 + flagBit r.lowCheck 3
        + flagBit r.alarmBurst 4)]
      ++ intBytes r.offset ++ intBytes r.high ++ intBytes r.low ++ wordBytes (BitVec.ofNat 32 r.hysteresis)
      ++ [BitVec.ofNat 8 (16 * r.enterPersistence + r.returnPersistence), BitVec.ofNat 8 r.period, BitVec.ofNat 8 r.duty,
          BitVec.ofNat 8 (r.limitClass.code + 4 * r.returnClass.code + 16 * r.staleClass.code)]
      ++ natBytes r.staleLimit
      ++ [BitVec.ofNat 8 (tripGroupCode r.tripGroup + flagBit r.tripHigh 4 + flagBit r.tripLow 5 + flagBit r.tripStale 6)] := by
  rfl

theorem intBytes_intAt (bytes : List Byte) (i : Nat) :
    intBytes (intAt bytes i) = [byteAt bytes i, byteAt bytes (i + 1), byteAt bytes (i + 2), byteAt bytes (i + 3)] := by
  rw [intAt, intBytes_toInt, wordBytes_wordOf]

/-- What decodes is stored so that the same bytes read back (R25). -/
theorem ConfigRecord.bytes_of_decode (bytes : List Byte) (r : ConfigRecord) (h : decodeRecord bytes = some r) :
    r.bytes = bytes := by
  unfold decodeRecord at h
  dsimp only at h
  split at h
  swap
  · simp at h
  rename_i limitClass returnClass staleClass hlimit hreturn hstale
  split_ifs at h with hc
  obtain ⟨hlength, hflags, hclasses, hreserved, hnogroup, -⟩ := hc
  obtain rfl := Option.some.inj h
  have hclass := EventClass.code_of_ofCode _ _ hlimit
  have hclass' := EventClass.code_of_ofCode _ _ hreturn
  have hclass'' := EventClass.code_of_ofCode _ _ hstale
  have hreserved' : (byteAt bytes 23).toNat / 4 % 4 = 0 :=
    (extract_toNat (byteAt bytes 23) 2 2).symm.trans (by rw [hreserved]; rfl)
  rw [extract_toNat] at hclass hclass' hclass''
  rw [ConfigRecord.bytes_eq]
  dsimp only
  rw [intBytes_intAt, intBytes_intAt, intBytes_intAt, BitVec.ofNat_toNat, BitVec.setWidth_eq, wordBytes_wordOf,
    natBytes_toNat, halfBytes_halfOf, tripGroupCode_of_byte _ hnogroup]
  refine Eq.trans ?_ (map_byteAt bytes 24 hlength)
  rw [ofNat_eq_of_toNat (byteAt bytes 0) _ (by simp only [flagBit_getLsbD]; omega),
    ofNat_eq_of_toNat (byteAt bytes 17) _ (by simp only [extract_toNat]; have := (byteAt bytes 17).isLt; omega),
    ofNat_eq_of_toNat (byteAt bytes 18) _ rfl, ofNat_eq_of_toNat (byteAt bytes 19) _ rfl,
    ofNat_eq_of_toNat (byteAt bytes 20) _ (by rw [hclass, hclass', hclass'']; omega),
    ofNat_eq_of_toNat (byteAt bytes 23) _ (by simp only [flagBit_getLsbD]; have := (byteAt bytes 23).isLt; omega)]
  rfl

/-- The range of each field that a stored record has (R25, R29). -/
theorem ConfigRecord.stored_fields (r : ConfigRecord) (e : Nat) (h : r.stored e) :
    (∀ v ∈ [r.offset, r.high, r.low], -2147483648 ≤ v ∧ v ≤ 2147483647) ∧ r.hysteresis ≤ 2147483647 := by
  obtain ⟨hvalid, -⟩ := h
  obtain ⟨-, hsigned, hhysteresis, -⟩ := (r.valid_iff e).mp hvalid
  refine ⟨fun v hv => ?_, ?_⟩
  · have hwidth := hsigned v hv
    split_ifs at hwidth <;> omega
  · split_ifs at hhysteresis <;> omega

/-- The signed fields of a record read back from its bytes. -/
theorem intAt_bytes (r : ConfigRecord) (h : ∀ v ∈ [r.offset, r.high, r.low], -2147483648 ≤ v ∧ v ≤ 2147483647) :
    intAt r.bytes 1 = r.offset ∧ intAt r.bytes 5 = r.high ∧ intAt r.bytes 9 = r.low := by
  obtain ⟨ho, ho'⟩ := h r.offset (by simp)
  obtain ⟨hh, hh'⟩ := h r.high (by simp)
  obtain ⟨hl, hl'⟩ := h r.low (by simp)
  exact ⟨wordOf_intBytes r.offset ho ho', wordOf_intBytes r.high hh hh', wordOf_intBytes r.low hl hl'⟩

/-- The five flags of a record read back from its first byte. -/
theorem flags_bytes (r : ConfigRecord) :
    (byteAt r.bytes 0).toNat < 32 ∧ (byteAt r.bytes 0).getLsbD 0 = r.enable ∧ (byteAt r.bytes 0).getLsbD 1 = r.pair
      ∧ (byteAt r.bytes 0).getLsbD 2 = r.highCheck ∧ (byteAt r.bytes 0).getLsbD 3 = r.lowCheck
      ∧ (byteAt r.bytes 0).getLsbD 4 = r.alarmBurst := by
  have h0 := Bool.toNat_le r.enable
  have h1 := Bool.toNat_le r.pair
  have h2 := Bool.toNat_le r.highCheck
  have h3 := Bool.toNat_le r.lowCheck
  have h4 := Bool.toNat_le r.alarmBurst
  have hbyte : byteAt r.bytes 0 = BitVec.ofNat 8 (flagBit r.enable 0 + flagBit r.pair 1 + flagBit r.highCheck 2
      + flagBit r.lowCheck 3 + flagBit r.alarmBurst 4) := rfl
  simp only [flagBit_eq] at hbyte
  rw [hbyte]
  refine ⟨by rw [BitVec.toNat_ofNat]; omega, getLsbD_ofNat _ _ _ ?_, getLsbD_ofNat _ _ _ ?_, getLsbD_ofNat _ _ _ ?_,
    getLsbD_ofNat _ _ _ ?_, getLsbD_ofNat _ _ _ ?_⟩ <;> omega

/-- The classes of a record read back from their byte. -/
theorem classes_bytes (r : ConfigRecord) :
    (byteAt r.bytes 20).toNat < 64
      ∧ EventClass.ofCode ((byteAt r.bytes 20).extractLsb' 0 2).toNat = some r.limitClass
      ∧ EventClass.ofCode ((byteAt r.bytes 20).extractLsb' 2 2).toNat = some r.returnClass
      ∧ EventClass.ofCode ((byteAt r.bytes 20).extractLsb' 4 2).toNat = some r.staleClass := by
  have hlimit := r.limitClass.code_le
  have hreturn := r.returnClass.code_le
  have hstale := r.staleClass.code_le
  have hbyte : (byteAt r.bytes 20).toNat = r.limitClass.code + 4 * r.returnClass.code + 16 * r.staleClass.code := by
    show (BitVec.ofNat 8 _).toNat = _
    rw [BitVec.toNat_ofNat]
    omega
  have hcode : ∀ (k : Nat) (c : EventClass), (byteAt r.bytes 20).toNat / 2 ^ k % 2 ^ 2 = c.code →
      EventClass.ofCode ((byteAt r.bytes 20).extractLsb' k 2).toNat = some c := fun k c h => by
    rw [extract_toNat, h, EventClass.ofCode_code]
  refine ⟨by omega, hcode 0 _ ?_, hcode 2 _ ?_, hcode 4 _ ?_⟩ <;> omega

/-- The persistences of a record read back from their byte. -/
theorem persistence_bytes (r : ConfigRecord) (henter : r.enterPersistence ≤ 15) (hreturn : r.returnPersistence ≤ 15) :
    ((byteAt r.bytes 17).extractLsb' 4 4).toNat = r.enterPersistence
      ∧ ((byteAt r.bytes 17).extractLsb' 0 4).toNat = r.returnPersistence := by
  have hbyte : (byteAt r.bytes 17).toNat = 16 * r.enterPersistence + r.returnPersistence := by
    show (BitVec.ofNat 8 _).toNat = _
    rw [BitVec.toNat_ofNat]
    omega
  rw [extract_toNat, extract_toNat, hbyte]
  omega

/-- The trip fields of a record read back from its last byte. -/
theorem trip_bytes (r : ConfigRecord) (hgroup : ∀ g ∈ r.tripGroup, g < 4) :
    ((byteAt r.bytes 23).extractLsb' 2 2).toNat = 0
      ∧ ((byteAt r.bytes 23).getLsbD 7 = false → ((byteAt r.bytes 23).extractLsb' 0 2).toNat = 0)
      ∧ tripGroupOf (byteAt r.bytes 23) = r.tripGroup ∧ (byteAt r.bytes 23).getLsbD 4 = r.tripHigh
      ∧ (byteAt r.bytes 23).getLsbD 5 = r.tripLow ∧ (byteAt r.bytes 23).getLsbD 6 = r.tripStale := by
  have h4 := Bool.toNat_le r.tripHigh
  have h5 := Bool.toNat_le r.tripLow
  have h6 := Bool.toNat_le r.tripStale
  have hbyte : byteAt r.bytes 23 = BitVec.ofNat 8 (tripGroupCode r.tripGroup + (r.tripHigh.toNat * 2 ^ 4
      + r.tripLow.toNat * 2 ^ 5 + r.tripStale.toNat * 2 ^ 6)) := by
    rw [← flagBit_eq, ← flagBit_eq, ← flagBit_eq, ← Nat.add_assoc, ← Nat.add_assoc]
    rfl
  have hcode : tripGroupCode r.tripGroup = 0 ∨ 128 ≤ tripGroupCode r.tripGroup ∧ tripGroupCode r.tripGroup < 132 := by
    cases hg : r.tripGroup with
    | none => exact .inl rfl
    | some g =>
      have := hgroup g hg
      simp only [tripGroupCode]
      omega
  have hback := tripGroupOf_ofNat r.tripGroup (r.tripHigh.toNat * 2 ^ 4 + r.tripLow.toNat * 2 ^ 5
    + r.tripStale.toNat * 2 ^ 6) (by omega) (by omega) hgroup
  rw [extract_toNat, extract_toNat, getLsbD_eq_decide, hbyte, hback, BitVec.toNat_ofNat]
  refine ⟨by omega, fun hmember => ?_, rfl, getLsbD_ofNat _ _ _ ?_, getLsbD_ofNat _ _ _ ?_, getLsbD_ofNat _ _ _ ?_⟩
  · have hclear := of_decide_eq_false hmember
    omega
  · omega
  · omega
  · omega

/-- A record that an entry can store decodes from its bytes (R25). -/
theorem ConfigRecord.decode_bytes (r : ConfigRecord) (e : Nat) (h : r.stored e) (hduty : r.duty ≤ 255)
    (hstale : r.staleLimit ≤ 65535) (hgroup : ∀ g ∈ r.tripGroup, g < 4) : decodeRecord r.bytes = some r := by
  obtain ⟨hsigned, hhysteresis⟩ := r.stored_fields e h
  obtain ⟨-, hp1, hp255, he1, he15, hr1, hr15⟩ := h
  obtain ⟨hoffset, hhigh, hlow⟩ := intAt_bytes r hsigned
  obtain ⟨hflags, henable, hpair, hhighCheck, hlowCheck, hburst⟩ := flags_bytes r
  obtain ⟨hclasses, hlimit, hreturn, hstaleClass⟩ := classes_bytes r
  obtain ⟨henter, hback⟩ := persistence_bytes r he15 hr15
  obtain ⟨hreserved, hnogroup, htrip, htripHigh, htripLow, htripStale⟩ := trip_bytes r hgroup
  have hzero : ∀ {n : Nat} (x : BitVec n), x = 0 ↔ x.toNat = 0 := fun x =>
    ⟨fun hx => by simp [hx], fun hx => BitVec.eq_of_toNat_eq (by simpa using hx)⟩
  have hword : (wordOf (byteAt r.bytes 13) (byteAt r.bytes 14) (byteAt r.bytes 15) (byteAt r.bytes 16)).toNat
      = r.hysteresis := by
    rw [show wordOf (byteAt r.bytes 13) (byteAt r.bytes 14) (byteAt r.bytes 15) (byteAt r.bytes 16)
      = BitVec.ofNat 32 r.hysteresis from wordOf_extract _, BitVec.toNat_ofNat, Nat.mod_eq_of_lt (by omega)]
  have hperiod : (byteAt r.bytes 18).toNat = r.period := by
    show (BitVec.ofNat 8 r.period).toNat = _
    rw [BitVec.toNat_ofNat, Nat.mod_eq_of_lt (by omega)]
  have hduty' : (byteAt r.bytes 19).toNat = r.duty := by
    show (BitVec.ofNat 8 r.duty).toNat = _
    rw [BitVec.toNat_ofNat, Nat.mod_eq_of_lt (by omega)]
  have hlimit' : (halfOf (byteAt r.bytes 21) (byteAt r.bytes 22)).toNat = r.staleLimit :=
    halfOf_natBytes_toNat r.staleLimit hstale
  unfold decodeRecord
  simp only [hlimit, hreturn, hstaleClass]
  rw [if_pos]
  · simp only [henable, hpair, hhighCheck, hlowCheck, hburst, hoffset, hhigh, hlow, hword, henter, hback, hperiod, hduty',
      hlimit', htrip, htripHigh, htripLow, htripStale]
  · refine ⟨rfl, hflags, hclasses, (hzero _).mpr hreserved, fun hm => (hzero _).mpr (hnogroup hm), ?_, ?_, ?_⟩
    · rw [Ne, hzero, henter]; omega
    · rw [Ne, hzero, hback]; omega
    · rw [Ne, hzero, hperiod]; omega

/-! ## Settings records (Table 20) -/

theorem decodeSettings_five (a b c d e : Byte) :
    decodeSettings [a, b, c, d, e] =
      match TickPeriod.ofCode a.toNat, EventClass.ofCode d.toNat with
      | some p, some k => if b ≠ 0 ∧ c.toNat ≤ 15 then some ⟨p, b.toNat, c.toNat, k, e⟩ else none
      | _, _ => none := rfl

/-- What decodes is stored so that the same bytes read back (R25). -/
theorem Settings.bytes_of_decode (bytes : List Byte) (x : Settings) (h : decodeSettings bytes = some x) :
    x.bytes = bytes := by
  unfold decodeSettings at h
  split at h
  swap
  · simp at h
  rename_i period interval limit fieldClass trip
  split at h
  swap
  · simp at h
  rename_i p c hp hc
  split_ifs at h
  obtain rfl := Option.some.inj h
  have hclass := EventClass.code_of_ofCode _ _ hc
  simp only [Settings.bytes, TickPeriod.code_of_ofCode _ _ hp, ofNat_eq_of_toNat interval _ rfl,
    ofNat_eq_of_toNat limit _ rfl, ofNat_eq_of_toNat fieldClass _ hclass]

theorem Settings.decode_bytes (x : Settings) (h1 : 1 ≤ x.retryInterval) (h255 : x.retryInterval ≤ 255)
    (h15 : x.retryLimit ≤ 15) : decodeSettings x.bytes = some x := by
  have hclass : (BitVec.ofNat 8 x.fieldLineClass.code).toNat = x.fieldLineClass.code := by
    have := x.fieldLineClass.code_le
    rw [BitVec.toNat_ofNat, Nat.mod_eq_of_lt (by omega)]
  have hinterval : (BitVec.ofNat 8 x.retryInterval).toNat = x.retryInterval := by
    rw [BitVec.toNat_ofNat, Nat.mod_eq_of_lt (by omega)]
  have hlimit : (BitVec.ofNat 8 x.retryLimit).toNat = x.retryLimit := by
    rw [BitVec.toNat_ofNat, Nat.mod_eq_of_lt (by omega)]
  have hne : BitVec.ofNat 8 x.retryInterval ≠ 0 := fun hz => by
    rw [hz] at hinterval
    simp at hinterval
    omega
  rw [Settings.bytes, decodeSettings_five, x.tickPeriod.ofCode_code, hclass, x.fieldLineClass.ofCode_code]
  simp only [hinterval, hlimit]
  rw [if_pos ⟨hne, h15⟩]

/-- Settles O50. -/
theorem recordsReadBackAsWritten : Obligations.RecordsReadBackAsWritten := by
  refine ⟨ConfigRecord.bytes_of_decode, ConfigRecord.decode_bytes, Settings.bytes_of_decode, Settings.decode_bytes,
    fun a b c d e => ?_⟩
  rw [decodeSettings_five]
  have hperiod := TickPeriod.ofCode_eq_none a.toNat
  have hclass := EventClass.ofCode_eq_none d.toNat
  cases hp : TickPeriod.ofCode a.toNat with
  | none => simp [hperiod.mp hp]
  | some p =>
    have ha : ¬3 < a.toNat := fun h => by simp [hperiod.mpr h] at hp
    cases hk : EventClass.ofCode d.toNat with
    | none => simp [hclass.mp hk]
    | some k =>
      have hd : ¬2 < d.toNat := fun h => by simp [hclass.mpr h] at hk
      have hnone : (if b ≠ 0 ∧ c.toNat ≤ 15 then some (Settings.mk p b.toNat c.toNat k e) else none) = none
          ↔ ¬(b ≠ 0 ∧ c.toNat ≤ 15) := by
        split_ifs with h
        · exact ⟨fun hn => absurd hn (by simp), fun hn => absurd h hn⟩
        · exact ⟨fun _ => h, fun _ => rfl⟩
      refine hnone.trans ?_
      rw [not_and_or, not_not, Nat.not_le]
      simp [ha, hd]

/-! ## The CRC (R19) -/

/-- The eight shifts of a byte. -/
theorem crcByte_eq (r : Half) (b : Byte) : crcByte r b = crcShift^[8] (r ^^^ (b ++ (0 : Byte))) := rfl

theorem crcShift_zero : crcShift 0 = 0 := rfl

/-- A register whose top bit is clear is shifted alone. -/
theorem crcShift_of_lt (r : Half) (h : r.toNat < 32768) : (crcShift r).toNat = 2 * r.toNat := by
  have htop : r.getLsbD 15 = false := by
    rw [show r.getLsbD 15 = r.toNat.testBit 15 from rfl, Nat.testBit_eq_decide_div_mod_eq]
    simp
    omega
  rw [crcShift, htop, if_neg (by simp), BitVec.toNat_shiftLeft, Nat.shiftLeft_eq]
  omega

/-- The lowest bit after a shift is the highest before it, the polynomial being odd. -/
theorem crcShift_getLsbD_zero (r : Half) : (crcShift r).getLsbD 0 = r.getLsbD 15 := by
  unfold crcShift
  cases h : r.getLsbD 15
  · simp
  · simp

theorem shiftLeft_one_injective (r t : Half) (hshift : r <<< 1 = t <<< 1) (htop : r.getLsbD 15 = t.getLsbD 15) : r = t := by
  refine BitVec.eq_of_getLsbD_eq fun i hi => ?_
  by_cases h15 : i = 15
  · rw [h15, htop]
  · have hbit := congrArg (fun x : Half => x.getLsbD (i + 1)) hshift
    have hi' : i + 1 < 16 := by omega
    simpa only [BitVec.getLsbD_shiftLeft, hi', decide_true, Bool.true_and, Nat.not_lt.mpr (Nat.le_add_left 1 i),
      decide_false, Bool.not_false, Nat.add_sub_cancel] using hbit

theorem crcShift_injective : Function.Injective crcShift := by
  intro r t h
  have htop : r.getLsbD 15 = t.getLsbD 15 := by rw [← crcShift_getLsbD_zero, h, crcShift_getLsbD_zero]
  refine shiftLeft_one_injective r t ?_ htop
  unfold crcShift at h
  rw [htop] at h
  split_ifs at h
  · have hcancel := congrArg (fun x : Half => x ^^^ 0x1021) h
    simpa [BitVec.xor_assoc] using hcancel
  · exact h

theorem crcShift_iterate_zero (n : Nat) : crcShift^[n] 0 = 0 := by
  induction n with
  | zero => rfl
  | succ n ih => rw [Function.iterate_succ_apply', ih, crcShift_zero]

/-- A register below 256 is carried eight places up. -/
theorem crcShift_iterate_byte (b : Byte) : crcShift^[8] ((0 : Byte) ++ b) = b ++ (0 : Byte) := by
  have hb := b.isLt
  have hstart : ((0 : Byte) ++ b : Half).toNat = b.toNat := by
    rw [BitVec.toNat_append, ← Nat.shiftLeft_add_eq_or_of_lt b.isLt]
    simp
  have hafter : ∀ n ≤ 8, (crcShift^[n] ((0 : Byte) ++ b : Half)).toNat = 2 ^ n * b.toNat := fun n hn => by
    induction n with
    | zero => rw [Function.iterate_zero_apply, hstart, pow_zero, Nat.one_mul]
    | succ n ih =>
      have hpow : 2 ^ n ≤ 2 ^ 7 := Nat.pow_le_pow_right (by decide) (by omega)
      have hlt : 2 ^ n * b.toNat < 32768 :=
        lt_of_le_of_lt (Nat.mul_le_mul_right _ hpow) (by omega)
      rw [Function.iterate_succ_apply', crcShift_of_lt _ (by rw [ih (by omega)]; exact hlt), ih (by omega), pow_succ]
      ring
  refine BitVec.eq_of_toNat_eq ?_
  rw [hafter 8 le_rfl, BitVec.toNat_append, Nat.shiftLeft_eq]
  simp [Nat.mul_comm]

theorem crc_append_two (body : List Byte) (a b : Byte) : crc (body ++ [a, b]) = crcByte (crcByte (crc body) a) b := by
  simp [crc, List.foldl_append]

/-- Two more bytes leave the register at 0 exactly where they are the CRC before them. -/
theorem crcByte_crcByte_eq_zero (r : Half) (a b : Byte) : crcByte (crcByte r a) b = 0 ↔ halfBytes r = [a, b] := by
  have hinjective := crcShift_injective.iterate 8
  have hlast : crcByte (crcByte r a) b = 0 ↔ crcByte r a = b ++ (0 : Byte) := by
    rw [crcByte_eq (crcByte r a), ← crcShift_iterate_zero 8, hinjective.eq_iff]
    exact BitVec.xor_eq_zero_iff
  have hfirst : crcByte r a = b ++ (0 : Byte) ↔ r ^^^ (a ++ (0 : Byte)) = (0 : Byte) ++ b := by
    rw [crcByte_eq, ← crcShift_iterate_byte b, hinjective.eq_iff]
  have hsplit : (a ++ (0 : Byte) : Half) ^^^ ((0 : Byte) ++ b) = a ++ b := by
    rw [BitVec.xor_append]
    simp
  have hjoin : r ^^^ (a ++ (0 : Byte)) = (0 : Byte) ++ b ↔ r = a ++ b := by
    rw [← hsplit]
    constructor
    · intro h
      rw [← h, BitVec.xor_comm r, ← BitVec.xor_assoc, BitVec.xor_self, BitVec.zero_xor]
    · rintro rfl
      rw [BitVec.xor_comm, ← BitVec.xor_assoc, BitVec.xor_self, BitVec.zero_xor]
  rw [hlast, hfirst, hjoin]
  constructor
  · rintro rfl
    exact halfBytes_halfOf a b
  · intro h
    have hhalf := halfOf_extract r
    simp only [halfBytes, List.cons.injEq, and_true] at h
    rw [h.1, h.2] at hhalf
    exact hhalf.symm

/-- Settles O51: the last two bytes of a frame take the register to 0 exactly where they are its CRC. -/
theorem crcOfAnIntactFrameIsZero : Obligations.CrcOfAnIntactFrameIsZero := by
  refine ⟨fun body => ?_, fun bytes hlength => ?_, Sys2Proof.Tests.test_crc_check_value⟩
  · show crc (body ++ [_, _]) = 0
    rw [crc_append_two, crcByte_crcByte_eq_zero]
    rfl
  · obtain ⟨a, b, hend⟩ := List.length_eq_two.mp
      (show (bytes.drop (bytes.length - 2)).length = 2 by rw [List.length_drop]; omega)
    have hsplit : bytes = frameBody bytes ++ [a, b] := by
      rw [frameBody, ← hend, List.take_append_drop]
    have hcrc : crc bytes = crcByte (crcByte (crc (frameBody bytes)) a) b := by
      conv_lhs => rw [hsplit]
      exact crc_append_two _ a b
    rw [hcrc, crcByte_crcByte_eq_zero, crcOk, hend]
    rw [decide_eq_true hlength, Bool.true_and, beq_iff_eq, eq_comm]

end Sys2Proof.Machine
end

section
/-! SUPPORT. The frames that the device forms pass its own checks and hold what they were formed of (R10, R20 to R24). -/

namespace Sys2Proof.Machine

open Sys2Proof Relation

/-! ## A body with its CRC (R10, R19) -/

theorem withCrc_length (body : List Byte) : (withCrc body).length = body.length + 2 := by
  simp [withCrc, halfBytes]

theorem frameBody_withCrc (body : List Byte) : frameBody (withCrc body) = body := by
  rw [frameBody, withCrc_length, Nat.add_sub_cancel, withCrc, List.take_left]

theorem crcOk_withCrc (body : List Byte) (h : body ≠ []) : crcOk (withCrc body) = true := by
  have hlength : 3 ≤ (withCrc body).length := by
    have := List.length_pos_iff.mpr h
    rw [withCrc_length]
    omega
  have hend : (withCrc body).drop ((withCrc body).length - 2) = halfBytes (crc body) := by
    rw [withCrc_length, withCrc, Nat.add_sub_cancel, List.drop_left]
  rw [crcOk, frameBody_withCrc, hend, decide_eq_true hlength, beq_self_eq_true, Bool.and_self]

theorem byteAt_withCrc (body : List Byte) (i : Nat) (h : i < body.length) : byteAt (withCrc body) i = byteAt body i := by
  rw [byteAt, byteAt, withCrc, List.getD_eq_getElem?_getD, List.getD_eq_getElem?_getD, List.getElem?_append_left h]

/-- A frame of a kind's byte that passes the format rule of the kind is of that kind. -/
theorem checkFrame_withCrc (kind : FrameKind) (b : Byte) (rest : List Byte) (hkind : FrameKind.ofByte b = some kind)
    (hformat : formatOk kind (withCrc (b :: rest)) = true) : checkFrame (withCrc (b :: rest)) = some kind := by
  have hfirst : byteAt (withCrc (b :: rest)) 0 = b := byteAt_withCrc _ 0 (by simp)
  rw [checkFrame, if_pos (crcOk_withCrc _ (by simp)), hfirst, hkind]
  exact if_pos hformat

/-- A length or count below 256 reads back from its byte. -/
theorem toNat_ofNat_byte (n : Nat) (h : n < 256) : (BitVec.ofNat 8 n).toNat = n := by
  rw [BitVec.toNat_ofNat, Nat.mod_eq_of_lt h]

/-! ## SAMPLE frames (R20) -/

theorem sampleFields_length (xs : List Sample) : (xs.flatMap Sample.bytes).length = 3 * xs.length := by
  induction xs with
  | nil => rfl
  | cons x rest ih =>
    rw [List.flatMap_cons, List.length_append, ih, List.length_cons]
    simp only [Sample.bytes, halfBytes, List.length_cons, List.length_nil]
    omega

theorem parseSamples_fields (xs : List Sample) : parseSamples (xs.flatMap Sample.bytes) = xs := by
  induction xs with
  | nil => rfl
  | cons x rest ih =>
    show parseSamples (x.head :: x.value.extractLsb' 8 8 :: x.value.extractLsb' 0 8 :: rest.flatMap Sample.bytes) = _
    rw [parseSamples, ih, halfOf_extract]

/-- The origin, the count and the samples of a SAMPLE frame the device forms. -/
theorem sampleFrame_fields (node : Byte) (xs : List Sample) (h : xs.length ≤ 16) :
    (sampleFrameBytes node xs).length = 5 + 3 * xs.length ∧ byteAt (sampleFrameBytes node xs) 1 = node
      ∧ (byteAt (sampleFrameBytes node xs) 2).toNat = xs.length ∧ frameSamples (sampleFrameBytes node xs) = xs := by
  have hlength : (sampleFrameBytes node xs).length = 5 + 3 * xs.length := by
    rw [sampleFrameBytes, withCrc_length]
    simp only [List.length_cons, sampleFields_length]
    omega
  have hcount : (byteAt (sampleFrameBytes node xs) 2).toNat = xs.length := by
    rw [sampleFrameBytes, byteAt_withCrc _ 2 (by simp)]
    exact toNat_ofNat_byte _ (by omega)
  refine ⟨hlength, by rw [sampleFrameBytes, byteAt_withCrc _ 1 (by simp)]; rfl, hcount, ?_⟩
  rw [frameSamples, hcount]
  show parseSamples ((xs.flatMap Sample.bytes ++ halfBytes _).take (3 * xs.length)) = xs
  rw [List.take_append_of_le_length (by rw [sampleFields_length]), ← sampleFields_length, List.take_length,
    parseSamples_fields]

theorem checkFrame_sample (node : Byte) (xs : List Sample) (hnode : node.toNat < 64) (h : xs.length ≤ 16) :
    checkFrame (sampleFrameBytes node xs) = some .sample := by
  obtain ⟨hlength, hfirst, hcount, -⟩ := sampleFrame_fields node xs h
  refine checkFrame_withCrc .sample 0x51 _ rfl ?_
  show sampleFormatOk (sampleFrameBytes node xs) = true
  simp [sampleFormatOk, hcount, hfirst, hlength, h, hnode]

/-! ## Report records (Table 13, R21) -/

theorem EventKind.code_range (k : EventKind) : 1 ≤ k.code ∧ k.code ≤ 11 := by cases k <;> decide

/-- The optional part of a record: its value, its extra, or neither. -/
def ReportRecord.optional (r : ReportRecord) : List Byte :=
  (match r.value with | some v => intBytes v | none => [])
    ++ (match r.extra with | some x => natBytes x | none => [])

theorem ReportRecord.bytes_eq (r : ReportRecord) :
    r.bytes = r.subject.code :: BitVec.ofNat 8 (16 * r.firstKind.code + r.lastKind.code)
      :: BitVec.ofNat 8 (flagBit r.urgent 0 + flagBit r.value.isSome 1 + flagBit r.extra.isSome 2)
      :: BitVec.ofNat 8 r.repeatCount :: r.generation :: r.optional := rfl

theorem ReportRecord.optional_length (r : ReportRecord) :
    r.optional.length = (if r.value.isSome then 4 else 0) + (if r.extra.isSome then 2 else 0) := by
  unfold ReportRecord.optional
  rw [List.length_append]
  cases r.value <;> cases r.extra <;> rfl

/-- The kinds byte of a record, by its nibbles. -/
theorem ReportRecord.kinds_byte (r : ReportRecord) :
    (byteAt r.bytes 1).toNat / 16 = r.firstKind.code ∧ (byteAt r.bytes 1).toNat % 16 = r.lastKind.code := by
  have hfirst := r.firstKind.code_range
  have hlast := r.lastKind.code_range
  have hbyte : (byteAt r.bytes 1).toNat = 16 * r.firstKind.code + r.lastKind.code := by
    rw [r.bytes_eq]
    exact toNat_ofNat_byte _ (by omega)
  omega

/-- The flags byte of a record (Table 13). -/
theorem ReportRecord.flags_byte (r : ReportRecord) :
    (byteAt r.bytes 2).toNat < 8 ∧ (byteAt r.bytes 2).getLsbD 0 = r.urgent
      ∧ (byteAt r.bytes 2).getLsbD 1 = r.value.isSome ∧ (byteAt r.bytes 2).getLsbD 2 = r.extra.isSome := by
  have h0 := Bool.toNat_le r.urgent
  have h1 := Bool.toNat_le r.value.isSome
  have h2 := Bool.toNat_le r.extra.isSome
  have hbyte : byteAt r.bytes 2
      = BitVec.ofNat 8 (flagBit r.urgent 0 + flagBit r.value.isSome 1 + flagBit r.extra.isSome 2) := by
    rw [r.bytes_eq]
    rfl
  simp only [flagBit_eq] at hbyte
  rw [hbyte]
  refine ⟨by rw [BitVec.toNat_ofNat]; omega, getLsbD_ofNat _ _ _ ?_, getLsbD_ofNat _ _ _ ?_, getLsbD_ofNat _ _ _ ?_⟩ <;>
    omega

theorem Subject.isSubjectCode_code (x : Subject) (h : ∀ e, x = .entry e → e < 96) : isSubjectCode x.code = true := by
  cases x with
  | entry e =>
    have he := h e rfl
    have hcode : (Subject.code (.entry e)).toNat = e := toNat_ofNat_byte e (by omega)
    simp [isSubjectCode, hcode, Config.entryCount, he]
  | _ => decide

theorem isKindCode_code (k : EventKind) : isKindCode k.code = true := by
  have := k.code_range
  simpa [isKindCode] using this

/-- A well-formed record at the head of a string is taken off it whole (R21). -/
theorem reportRecordsOk_cons (r : ReportRecord) (n : Nat) (rest : List Byte) (hwf : r.wf)
    (hsubject : ∀ e, r.subject = .entry e → e < 96) : reportRecordsOk (n + 1) (r.bytes ++ rest) = reportRecordsOk n rest := by
  obtain ⟨-, hone, hrepeat, hrepeat'⟩ := hwf
  obtain ⟨hfirst, hlast⟩ := r.kinds_byte
  obtain ⟨hflags, -, hvalue, hextra⟩ := r.flags_byte
  rw [r.bytes_eq] at hfirst hlast hflags hvalue hextra ⊢
  simp only [byteAt, List.getD_cons_succ, List.getD_cons_zero] at hfirst hlast hflags hvalue hextra
  have hrepeats : BitVec.ofNat 8 r.repeatCount ≠ 0 := fun hz => by
    have hcount := toNat_ofNat_byte r.repeatCount (by omega)
    rw [hz] at hcount
    simp at hcount
    omega
  have hoptional : (if r.value.isSome then 4 else if r.extra.isSome then 2 else 0) = r.optional.length := by
    rw [r.optional_length]
    rcases hone with h | h <;> simp [h]
  have hnotBoth : (r.value.isSome && r.extra.isSome) = false := by
    rcases hone with h | h <;> simp [h]
  simp only [List.cons_append, reportRecordsOk, hfirst, hlast, hvalue, hextra, hoptional, hnotBoth, isKindCode_code,
    r.subject.isSubjectCode_code hsubject, List.drop_left, decide_eq_true hflags, bne_iff_ne.mpr hrepeats]
  simp

theorem reportRecordsOk_records (records : List ReportRecord)
    (h : ∀ r ∈ records, r.wf ∧ ∀ e, r.subject = .entry e → e < 96) :
    reportRecordsOk records.length (records.flatMap ReportRecord.bytes) = true := by
  induction records with
  | nil => rfl
  | cons r rest ih =>
    obtain ⟨hwf, hsubject⟩ := h r (by simp)
    rw [List.flatMap_cons, List.length_cons, reportRecordsOk_cons r _ _ hwf hsubject]
    exact ih fun x hx => h x (by simp [hx])

theorem ReportRecord.bytes_length (r : ReportRecord) :
    r.bytes.length = 5 + (if r.value.isSome then 4 else 0) + (if r.extra.isSome then 2 else 0) := by
  rw [r.bytes_eq]
  simp only [List.length_cons, r.optional_length]
  omega

theorem records_length_le (records : List ReportRecord) (h : ∀ r ∈ records, r.wf) :
    (records.flatMap ReportRecord.bytes).length ≤ 9 * records.length := by
  induction records with
  | nil => simp
  | cons r rest ih =>
    have hrest := ih fun x hx => h x (by simp [hx])
    obtain ⟨-, hone, -⟩ := h r (by simp)
    have hlength : r.bytes.length ≤ 9 := by
      rw [r.bytes_length]
      rcases hone with h | h <;> simp [h] <;> split <;> omega
    rw [List.flatMap_cons, List.length_append, List.length_cons]
    omega

/-- A value or an extra stands in the bytes after the five that every record has (Table 13). -/
theorem ReportRecord.value_bytes (r : ReportRecord) (v : Int) (h : r.value = some v) (hlow : -2147483648 ≤ v)
    (hhigh : v ≤ 2147483647) :
    (wordOf (byteAt r.bytes 5) (byteAt r.bytes 6) (byteAt r.bytes 7) (byteAt r.bytes 8)).toInt = v := by
  have hoptional : r.optional = intBytes v ++ (match r.extra with | some x => natBytes x | none => []) := by
    rw [ReportRecord.optional, h]
  rw [r.bytes_eq, hoptional]
  exact wordOf_intBytes v hlow hhigh

theorem ReportRecord.extra_bytes (r : ReportRecord) (x : Nat) (h : r.extra = some x) (hvalue : r.value = none)
    (hx : x ≤ 65535) : (halfOf (byteAt r.bytes 5) (byteAt r.bytes 6)).toNat = x := by
  have hoptional : r.optional = natBytes x := by
    rw [ReportRecord.optional, h, hvalue]
    rfl
  rw [r.bytes_eq, hoptional]
  exact halfOf_natBytes_toNat x hx

/-! ## REPORT frames (R21) -/

/-- The fields of a REPORT frame the device forms. -/
theorem reportFrame_fields (a n : Byte) (records : List ReportRecord) (h : records.length ≤ 4) :
    byteAt (reportFrameBytes a n records) 1 = a ∧ byteAt (reportFrameBytes a n records) 2 = n
      ∧ (byteAt (reportFrameBytes a n records) 3).toNat = records.length
      ∧ (frameBody (reportFrameBytes a n records)).drop 4 = records.flatMap ReportRecord.bytes := by
  rw [reportFrameBytes, byteAt_withCrc _ 1 (by simp), byteAt_withCrc _ 2 (by simp), byteAt_withCrc _ 3 (by simp),
    frameBody_withCrc]
  exact ⟨rfl, rfl, toNat_ofNat_byte _ (by omega), rfl⟩

theorem checkFrame_report (a n : Byte) (records : List ReportRecord) (ha : 1 ≤ a.toNat) (ha' : a.toNat ≤ 30)
    (h1 : 1 ≤ records.length) (h4 : records.length ≤ 4) (h : ∀ r ∈ records, r.wf ∧ ∀ e, r.subject = .entry e → e < 96) :
    checkFrame (reportFrameBytes a n records) = some .report := by
  obtain ⟨haddress, -, hcount, hrecords⟩ := reportFrame_fields a n records h4
  refine checkFrame_withCrc .report 0x52 _ rfl ?_
  show reportFormatOk (reportFrameBytes a n records) = true
  simp [reportFormatOk, haddress, hcount, hrecords, reportRecordsOk_records records h, ha, ha', h1, h4]

/-! ## RESPONSE, REQUEST and ENUMERATION frames (R22 to R24) -/

theorem isStatusCode_code (x : Status) : isStatusCode x.code = true := by cases x <;> decide

theorem responseFrame_fields (a : Byte) (r : Response) (h : r.payload.length ≤ 55) :
    (r.bytes a).length = 9 + r.payload.length ∧ byteAt (r.bytes a) 1 = a ∧ byteAt (r.bytes a) 2 = r.tag
      ∧ byteAt (r.bytes a) 3 = r.op ∧ byteAt (r.bytes a) 4 = r.status.code
      ∧ byteAt (r.bytes a) 5 = (if r.repeated then 1 else 0) ∧ (byteAt (r.bytes a) 6).toNat = r.payload.length
      ∧ (frameBody (r.bytes a)).drop 7 = r.payload := by
  rw [Response.bytes, withCrc_length, byteAt_withCrc _ 1 (by simp), byteAt_withCrc _ 2 (by simp),
    byteAt_withCrc _ 3 (by simp), byteAt_withCrc _ 4 (by simp), byteAt_withCrc _ 5 (by simp), byteAt_withCrc _ 6 (by simp),
    frameBody_withCrc]
  refine ⟨by simp only [List.length_cons]; omega, rfl, rfl, rfl, rfl, ?_, toNat_ofNat_byte _ (by omega), rfl⟩
  show BitVec.ofNat 8 (flagBit r.repeated 0) = _
  cases r.repeated <;> rfl

theorem checkFrame_response (a : Byte) (r : Response) (ha : 1 ≤ a.toNat) (ha' : a.toNat ≤ 30)
    (h : r.payload.length ≤ 55) : checkFrame (r.bytes a) = some .response := by
  obtain ⟨hlength, haddress, -, -, hstatus, hrepeated, hcount, -⟩ := responseFrame_fields a r h
  have hflag : (byteAt (r.bytes a) 5).toNat < 2 := by
    rw [hrepeated]
    cases r.repeated <;> decide
  refine checkFrame_withCrc .response 0x53 _ rfl ?_
  show responseFormatOk (r.bytes a) = true
  simp [responseFormatOk, haddress, hstatus, isStatusCode_code, hflag, hcount, hlength, ha, ha', h]

theorem requestFrame_fields (target tag op : Byte) (operands : List Byte) (h : operands.length ≤ 57) :
    (requestFrameBytes target tag op operands).length = 7 + operands.length
      ∧ byteAt (requestFrameBytes target tag op operands) 1 = target
      ∧ byteAt (requestFrameBytes target tag op operands) 2 = tag
      ∧ byteAt (requestFrameBytes target tag op operands) 3 = op
      ∧ (byteAt (requestFrameBytes target tag op operands) 4).toNat = operands.length
      ∧ requestOperands (requestFrameBytes target tag op operands) = operands := by
  rw [requestOperands, requestFrameBytes, withCrc_length, byteAt_withCrc _ 1 (by simp), byteAt_withCrc _ 2 (by simp),
    byteAt_withCrc _ 3 (by simp), byteAt_withCrc _ 4 (by simp), frameBody_withCrc]
  exact ⟨by simp only [List.length_cons]; omega, rfl, rfl, rfl, toNat_ofNat_byte _ (by omega), rfl⟩

theorem checkFrame_request (target tag op : Byte) (operands : List Byte) (h : requestFieldsOk target operands = true) :
    checkFrame (requestFrameBytes target tag op operands) = some .request := by
  have hoperands : operands.length ≤ 57 := by
    simp only [requestFieldsOk, Bool.and_eq_true, decide_eq_true_eq] at h
    exact h.2
  obtain ⟨hlength, htarget, -, -, hcount, hback⟩ := requestFrame_fields target tag op operands hoperands
  refine checkFrame_withCrc .request 0x61 _ rfl ?_
  show requestFormatOk (requestFrameBytes target tag op operands) = true
  simp [requestFormatOk, htarget, hback, h, hcount, hlength]

theorem enumerationFrame_fields (mode next flags tag : Byte) :
    (enumerationFrameBytes mode next flags tag).length = 7 ∧ byteAt (enumerationFrameBytes mode next flags tag) 1 = mode
      ∧ byteAt (enumerationFrameBytes mode next flags tag) 2 = next
      ∧ byteAt (enumerationFrameBytes mode next flags tag) 3 = flags
      ∧ byteAt (enumerationFrameBytes mode next flags tag) 4 = tag := ⟨rfl, rfl, rfl, rfl, rfl⟩

theorem checkFrame_enumeration (mode next flags tag : Byte) (h : enumerationFieldsOk mode next flags = true) :
    checkFrame (enumerationFrameBytes mode next flags tag) = some .enumeration := by
  obtain ⟨hlength, hmode, hnext, hflags, -⟩ := enumerationFrame_fields mode next flags tag
  refine checkFrame_withCrc .enumeration 0x62 _ rfl ?_
  show enumerationFormatOk (enumerationFrameBytes mode next flags tag) = true
  simp [enumerationFormatOk, hlength, hmode, hnext, hflags, h]

/-- The fields of a record's bytes (Table 13). -/
theorem ReportRecord.fields (r : ReportRecord) (hwf : r.wf) :
    (∀ e < 96, r.subject = .entry e → (byteAt r.bytes 0).toNat = e)
      ∧ (byteAt r.bytes 3).toNat = r.repeatCount ∧ byteAt r.bytes 4 = r.generation ∧ byteAt r.bytes 0 = r.subject.code := by
  obtain ⟨-, -, -, hrepeat⟩ := hwf
  rw [r.bytes_eq]
  refine ⟨fun e he hsubject => ?_, toNat_ofNat_byte _ (by omega), rfl, rfl⟩
  show r.subject.code.toNat = e
  rw [hsubject]
  exact toNat_ofNat_byte e (by omega)

/-- Settles O52. -/
theorem formedFramesAreWellFormed : Obligations.FormedFramesAreWellFormed := by
  refine ⟨fun node xs hnode hlength => ?_, fun a n records ha ha' h1 h4 hrecords => ?_, fun r hwf => ?_, ⟨rfl, rfl⟩,
    fun a r ha ha' hpayload => ?_, fun target tag op operands h => ?_, fun mode next flags tag h => ?_⟩
  · obtain ⟨hbytes, horigin, -, hsamples⟩ := sampleFrame_fields node xs hlength
    exact ⟨checkFrame_sample node xs hnode hlength, hsamples, by rw [frameNode, horigin], hbytes⟩
  · obtain ⟨haddress, hsequence, hcount, hbody⟩ := reportFrame_fields a n records h4
    have hlength := records_length_le records fun r hr => (hrecords r hr).1
    refine ⟨checkFrame_report a n records ha ha' h1 h4 hrecords, ?_, haddress, hsequence, hcount, hbody⟩
    rw [reportFrameBytes, withCrc_length]
    simp only [List.length_cons]
    omega
  · obtain ⟨hentry, hrepeat, hgeneration, hsubject⟩ := r.fields hwf
    obtain ⟨hfirst, hlast⟩ := r.kinds_byte
    obtain ⟨hflags, hurgent, hvalue, hextra⟩ := r.flags_byte
    have hcode : ∀ x : Subject, r.subject = x → byteAt r.bytes 0 = x.code := fun x hx => hx ▸ hsubject
    refine ⟨hentry, hcode .fieldLine, hcode .commit, hcode .loss, hcode .restart, hfirst, hlast, hurgent, hvalue, hextra,
      hflags, hrepeat, hgeneration, r.bytes_length, fun v hv => r.value_bytes v hv, fun x hx => ?_⟩
    obtain ⟨-, hone, -⟩ := hwf
    rw [Option.mem_def] at hx
    exact r.extra_bytes x hx (hone.resolve_right (by simp [hx]))
  · obtain ⟨hlength, hfields⟩ := responseFrame_fields a r hpayload
    exact ⟨checkFrame_response a r ha ha' hpayload, hlength, hfields⟩
  · have hoperands : operands.length ≤ 57 := by
      simp only [requestFieldsOk, Bool.and_eq_true, decide_eq_true_eq] at h
      exact h.2
    obtain ⟨hlength, hfields⟩ := requestFrame_fields target tag op operands hoperands
    exact ⟨checkFrame_request target tag op operands h, hlength, hfields⟩
  · obtain ⟨hlength, hfields⟩ := enumerationFrame_fields mode next flags tag
    exact ⟨checkFrame_enumeration mode next flags tag h, hlength, hfields⟩

end Sys2Proof.Machine
end

section
/-! SUPPORT. One arrival of a claim: its samples, its entry, and the switch at a boundary (R47 to R51, R61 to R66, R103). -/

namespace Sys2Proof.Machine

open Sys2Proof Relation

/-! ## An evaluated arrival before the switch at its boundary -/

/-- The state after an evaluated arrival at entry e and its count by the schedule. -/
def State.arrived (s : State) (e : Nat) (raw : Option Int) : State :=
  (s.evaluate e raw).state.modifyRun e (s.entry e).live.count

theorem State.arrived_entry_self (s : State) (e : Nat) (raw : Option Int) (h : e < s.table.length) :
    (s.arrived e raw).entry e = { s.entry e with run := (s.entry e).live.runAfter (s.entry e).run raw } := by
  unfold State.arrived
  rw [s.evaluate_state e raw, State.modifyRun_entry_self _ e _ (by simpa using h),
    State.modifyRun_entry_self _ e _ (by simpa using h), s.raiseChannels_entry_self e _ _ h]
  cases raw <;> rfl

theorem State.arrived_entry_other (s : State) (e i : Nat) (raw : Option Int) (h : i ≠ e) :
    (s.arrived e raw).entry i = s.entry i := by
  unfold State.arrived
  rw [s.evaluate_state e raw, State.modifyRun_entry_other _ e i _ h, State.modifyRun_entry_other _ e i _ h,
    s.raiseChannels_entry_other e i _ _ h]

/-- An arrival touches the table and the report queue alone (R64, R116). -/
theorem State.arrived_eq (s : State) (e : Nat) (raw : Option Int) :
    s.arrived e raw =
      { s with table := (s.arrived e raw).table, report := { s.report with queue := s.queueAfter e raw } } := by
  unfold State.arrived
  rw [s.evaluate_state e raw, s.raiseChannels_eq]
  rfl

theorem State.arrived_slots (s : State) (e i : Nat) (raw : Option Int) :
    ((s.arrived e raw).entry i).live = (s.entry i).live ∧ ((s.arrived e raw).entry i).staging = (s.entry i).staging := by
  by_cases hi : i = e
  · subst hi
    by_cases h : i < s.table.length
    · rw [s.arrived_entry_self i raw h]
      exact ⟨rfl, rfl⟩
    · have hlength : (s.arrived i raw).table.length = s.table.length := by
        unfold State.arrived
        rw [s.evaluate_state i raw]
        simp
      rw [State.entry_of_le _ i (by omega), s.entry_of_le i (by omega)]
      exact ⟨rfl, rfl⟩
  · rw [s.arrived_entry_other e i raw hi]
    exact ⟨rfl, rfl⟩

theorem State.arrived_length (s : State) (e : Nat) (raw : Option Int) :
    (s.arrived e raw).table.length = s.table.length := by
  unfold State.arrived
  rw [s.evaluate_state e raw]
  simp

theorem State.unit_congr (s t : State) (e : Nat)
    (h : ∀ i, (t.entry i).live = (s.entry i).live ∧ (t.entry i).staging = (s.entry i).staging) : t.unit e = s.unit e := by
  simp [State.unit, s.unitLower_congr t e h, State.pairUnit, h]

/-! ## The switch at the boundary (R66, R103) -/

theorem State.boundarySwitch_of_not (s : State) (e : Nat)
    (h : (s.entry e).run.waiting = false ∨ (s.entry e).run.position ≠ 0 ∨ s.unitUpper e = true) :
    s.boundarySwitch e = s := by
  unfold State.boundarySwitch
  rw [if_neg]
  simp only [Bool.and_eq_true, beq_iff_eq, Bool.not_eq_true', not_and, Bool.not_eq_false]
  rintro ⟨hwaits, hzero⟩
  rcases h with h | h | h
  · simp [hwaits] at h
  · exact absurd hzero h
  · exact h

theorem State.boundarySwitch_of_due (s : State) (e : Nat) (hwaits : (s.entry e).run.waiting = true)
    (hzero : (s.entry e).run.position = 0) (hlower : s.unitUpper e = false) :
    s.boundarySwitch e = (s.switchUnit e false).completeIfEmpty := by
  unfold State.boundarySwitch
  rw [if_pos (by simp [hwaits, hzero, hlower])]

/-! ## The samples of an evaluated arrival (R65, R76) -/

theorem sampleAt_of_getElem? (c : FrameClaim) (i : Nat) (x : Sample) (h : c.samples[i]? = some (some x)) :
    c.sampleAt i = x := by
  simp [FrameClaim.sampleAt, List.getD_eq_getElem?_getD, h]

/-- An arrival that is evaluated goes to the schedule with the raw value its samples give (R49, R51, R61). -/
theorem FrameClaim.take_evaluates (c : FrameClaim) (a : Arrival) (e : Nat) (places : List Nat) (raw : Option Int)
    (h : c.evaluates a e places raw) (hopen : e ∉ c.closed) : c.take a = c.schedule e places (c.state.evaluate e raw) := by
  unfold FrameClaim.take
  rcases h with ⟨i, x, rfl, rfl, hx, rfl⟩ | ⟨i, j, x, y, -, rfl, rfl, hx, hy, rfl⟩
  · rw [if_neg (by simpa [Arrival.entry] using hopen)]
    dsimp only
    rw [sampleAt_of_getElem? c i x hx]
    split <;> rfl
  · rw [if_neg (by simpa [Arrival.entry] using hopen)]
    dsimp only
    rw [sampleAt_of_getElem? c i x hx, sampleAt_of_getElem? c j y hy]
    split <;> rfl

theorem FrameClaim.evaluates_places (c : FrameClaim) (a : Arrival) (e : Nat) (places : List Nat) (raw : Option Int)
    (h : c.evaluates a e places raw) : places.Nodup := by
  rcases h with ⟨i, x, -, rfl, -⟩ | ⟨i, j, x, y, hne, -, rfl, -⟩
  · exact List.nodup_singleton i
  · simpa using hne

/-- What the schedule leaves at the places of an arrival, and at every other place. -/
theorem scheduled_places (places : List Nat) (samples : List (Option Sample)) (f : Option Sample → Option Sample)
    (h : places.Nodup) (i : Nat) :
    (places.foldl (fun l j => l.modify j f) samples)[i]? = if i ∈ places then samples[i]?.map f else samples[i]? := by
  induction places generalizing samples with
  | nil => rfl
  | cons j rest ih =>
    obtain ⟨hj, hrest⟩ := List.nodup_cons.mp h
    rw [List.foldl_cons, ih _ hrest, List.getElem?_modify]
    by_cases hi : i = j
    · subst hi
      simp [hj]
    · have hji : ¬j = i := fun hh => hi hh.symm
      simp [hi, hji]

theorem State.evaluate_position (s : State) (e : Nat) (raw : Option Int) (h : e < s.table.length) :
    ((s.evaluate e raw).state.entry e).run.position = (s.entry e).run.position := by
  rw [s.evaluate_state e raw, State.modifyRun_entry_self _ e _ (by simpa using h), s.raiseChannels_entry_self e _ _ h]
  rfl

/-- The schedule's decision on an evaluated arrival, its state and its samples (R73, R74). -/
theorem FrameClaim.schedule_eq (c : FrameClaim) (e : Nat) (places : List Nat) (raw : Option Int)
    (h : e < c.state.table.length) :
    let x := c.state.entry e
    let u := (c.state.arrived e raw).boundarySwitch e
    c.schedule e places (c.state.evaluate e raw) =
      { state := u
        samples := places.foldl
          (fun l i => l.modify i (scheduled (x.live.keeps x.run raw) (x.live.tagOf x.run raw))) c.samples
        closed := if (u.entry e).live.enable = x.live.enable ∧ (u.entry e).live.pair = x.live.pair then c.closed
          else (c.state.arrived e raw).unit e ++ c.closed
        changed := true } := by
  intro x u
  have hkept : x.live.forwards ((c.state.evaluate e raw).state.entry e).run.position (c.state.evaluate e raw).tag
      (c.state.evaluate e raw).raised = x.live.keeps x.run raw := by
    rw [c.state.evaluate_position e raw h, c.state.evaluate_tag, c.state.evaluate_raised]
    rfl
  unfold FrameClaim.schedule
  dsimp only
  rw [hkept, c.state.evaluate_tag]
  rfl

/-- The samples of an evaluated arrival are tagged and kept, or removed, and no other sample changes (R65, R76). -/
theorem FrameClaim.take_decided (c : FrameClaim) (a : Arrival) (e : Nat) (places : List Nat) (raw : Option Int)
    (h : c.evaluates a e places raw) (hopen : e ∉ c.closed) (he : e < c.state.table.length) :
    let x := c.state.entry e
    c.decided (c.take a) places (x.live.keeps x.run raw) (x.live.tagOf x.run raw) := by
  have hplaces := c.evaluates_places a e places raw h
  intro x
  rw [c.take_evaluates a e places raw h hopen, c.schedule_eq e places raw he]
  refine ⟨fun i hi y hy => ?_, fun i hi => ?_⟩
  · dsimp only
    rw [scheduled_places places c.samples _ hplaces i, if_pos hi, hy]
    rfl
  · dsimp only
    rw [scheduled_places places c.samples _ hplaces i, if_neg hi]

/-- An evaluated arrival at which no unit switches: its entry, the queue, its samples, and nothing else. -/
theorem FrameClaim.take_without_switch (c : FrameClaim) (a : Arrival) (e : Nat) (places : List Nat) (raw : Option Int)
    (h : c.evaluates a e places raw) (hopen : e ∉ c.closed) (he : e < c.state.table.length)
    (hstays : (c.state.entry e).run.waiting = false ∨ (c.state.entry e).run.position + 1 ≠ (c.state.entry e).live.period
      ∨ c.state.unitUpper e = true) :
    (c.take a).state = c.state.arrived e raw ∧ (c.take a).closed = c.closed ∧ (c.take a).changed = true := by
  have hself := c.state.arrived_entry_self e raw he
  have hsame : (c.state.arrived e raw).boundarySwitch e = c.state.arrived e raw := by
    refine State.boundarySwitch_of_not _ e ?_
    rw [hself, c.state.unitUpper_congr _ e fun i => c.state.arrived_slots e i raw]
    rcases hstays with hw | hp | hu
    · exact .inl hw
    · refine .inr (.inl ?_)
      show (if _ then _ else _) ≠ 0
      rw [if_neg hp]
      exact Nat.succ_ne_zero _
    · exact .inr (.inr hu)
  rw [c.take_evaluates a e places raw h hopen, c.schedule_eq e places raw he]
  dsimp only
  rw [hsame, hself]
  exact ⟨rfl, if_pos ⟨rfl, rfl⟩, rfl⟩

/-! ## A split half (R50) -/

/-- A split half counts, raises SPLIT and resets the age of its lower entry. -/
theorem State.splitHalf_entry_self (s : State) (e : Nat) (h : e < s.table.length) :
    (s.splitHalf e).entry e =
      { s.entry e with run := { (s.entry e).run with
          age := 0
          splitCount := min 255 ((s.entry e).run.splitCount + 1)
          tally := min 255 ((s.entry e).run.tally + 1)
          lastKind := some .split } } := by
  rw [State.splitHalf, State.raiseChannel_entry_self _ e _ _ (by simpa using h), s.modifyRun_entry_self e _ h]
  rfl

theorem State.splitHalf_entry_other (s : State) (e i : Nat) (h : i ≠ e) : (s.splitHalf e).entry i = s.entry i := by
  rw [State.splitHalf, State.raiseChannel_entry_other _ e i _ _ h, s.modifyRun_entry_other e i _ h]

theorem State.splitHalf_eq (s : State) (e : Nat) (h : e < s.table.length) :
    s.splitHalf e =
      { s with
        table := (s.splitHalf e).table
        report := { s.report with
          queue := placeEvent s.commit.generation
            ⟨.entry e, .split, .routine, (s.entry e).run.generation, none, none⟩ s.report.queue } } := by
  conv_lhs => rw [State.splitHalf, State.raiseChannel_eq, s.modifyRun_entry_self e _ h]
  rfl

theorem FrameClaim.take_split (c : FrameClaim) (e place : Nat) (hopen : e ∉ c.closed) :
    c.take (.split e place) = { c with state := c.state.splitHalf e } := by
  unfold FrameClaim.take
  rw [if_neg (by simpa [Arrival.entry] using hopen)]

theorem FrameClaim.take_closed (c : FrameClaim) (a : Arrival) (h : a.entry ∈ c.closed) : c.take a = c := by
  unfold FrameClaim.take
  rw [if_pos (by simpa using h)]

/-! ## A switch at the boundary, in a claim -/

/-- What an evaluated arrival at the boundary of a waiting unit leaves: the unit switched after the arrival. -/
theorem FrameClaim.take_at_boundary (c : FrameClaim) (a : Arrival) (e : Nat) (places : List Nat) (raw : Option Int)
    (h : c.evaluates a e places raw) (hopen : e ∉ c.closed) (he : e < c.state.table.length)
    (hwaits : (c.state.entry e).run.waiting = true) (hlower : c.state.unitUpper e = false)
    (hboundary : (c.state.entry e).run.position + 1 = (c.state.entry e).live.period) :
    (c.take a).state = ((c.state.arrived e raw).switchUnit e false).completeIfEmpty
      ∧ (c.take a).closed =
          if (c.state.entry e).staging.enable = (c.state.entry e).live.enable
            ∧ (c.state.entry e).staging.pair = (c.state.entry e).live.pair
          then c.closed else c.state.unit e ++ c.closed := by
  have hself := c.state.arrived_entry_self e raw he
  have hslots := fun i => c.state.arrived_slots e i raw
  have hunit : (c.state.arrived e raw).unit e = c.state.unit e := c.state.unit_congr _ e hslots
  have hswitch : (c.state.arrived e raw).boundarySwitch e
      = ((c.state.arrived e raw).switchUnit e false).completeIfEmpty := by
    refine State.boundarySwitch_of_due _ e (by rw [hself]; exact hwaits) ?_
      ((c.state.unitUpper_congr _ e hslots).trans hlower)
    rw [hself]
    exact if_pos hboundary
  have hafter : ((((c.state.arrived e raw).switchUnit e false).completeIfEmpty).entry e).live
      = (c.state.entry e).staging := by
    rw [State.entry_congr ((c.state.arrived e raw).switchUnit e false) _ e (State.completeIfEmpty_table _),
      State.switchUnit_live, hunit, if_pos (c.state.mem_unit_self e), (hslots e).2]
  rw [c.take_evaluates a e places raw h hopen, c.schedule_eq e places raw he]
  dsimp only
  rw [hswitch, hafter, hunit]
  exact ⟨rfl, rfl⟩

theorem State.switchUnit_entry_of_mem (s : State) (e i : Nat) (b : Bool) (h : i < s.table.length) (hi : i ∈ s.unit e) :
    (s.switchUnit e b).entry i = s.switchedEntry b i (s.entry i) := by
  unfold State.switchUnit
  rw [s.switchEntries_entry _ b i h, if_pos (by simpa using hi)]

theorem State.switchUnit_entry_of_not_mem (s : State) (e i : Nat) (b : Bool) (hi : i ∉ s.unit e) :
    (s.switchUnit e b).entry i = s.entry i := by
  unfold State.switchUnit
  by_cases h : i < s.table.length
  · rw [s.switchEntries_entry _ b i h, if_neg (by simpa using hi)]
  · rw [State.entry_of_le _ i (by simpa using Nat.le_of_not_lt h), s.entry_of_le i (Nat.le_of_not_lt h)]

/-- The commit and the report queue after the switch of a unit at a boundary (R107). -/
theorem State.switchUnit_completes (s : State) (e : Nat) (hlength : s.table.length = 96) :
    (s.commit.pending = true → s.waitsOnlyIn (s.unit e) →
      (s.switchUnit e false).completeIfEmpty.commit = { s.commit with pending := false, deadline := 0 }
        ∧ (s.switchUnit e false).completeIfEmpty.report.queue
            = placeEvent s.commit.generation s.commitDone s.report.queue)
    ∧ (s.commit.pending = false ∨ ¬s.waitsOnlyIn (s.unit e) →
        (s.switchUnit e false).completeIfEmpty = s.switchUnit e false) := by
  have hcount := s.switchUnit_waitingCount e false hlength
  refine ⟨fun hpending honly => ?_, fun hstays => ?_⟩
  · have hdone : (s.switchUnit e false).completeIfEmpty = (s.switchUnit e false).completeCommit := by
      rw [State.completeIfEmpty, if_pos ⟨by simpa using hpending, hcount.mpr honly⟩]
    rw [hdone]
    exact ⟨by simp, by rw [State.completeCommit_queue]; simp [State.commitDone]⟩
  · rw [State.completeIfEmpty, if_neg]
    rintro ⟨hpending, hnone⟩
    rcases hstays with hidle | hothers
    · simp [hidle] at hpending
    · exact hothers (hcount.mp hnone)

end Sys2Proof.Machine
end

section
/-! SUPPORT. FRAME_CLAIM as a whole: roles, the frame that goes on, and the obligations on its arrivals (chapters 4 and 5). -/

namespace Sys2Proof.Machine

open Sys2Proof Relation

/-! ## The claim of the oldest PENDING frame (R45, R77, R78, R81) -/

theorem replacePending_first (r : Option InboundFrame) (before after : List InboundFrame) (bytes : List Byte)
    (h : ∀ f ∈ before, f.state ≠ .pending) :
    replacePending r (before ++ ⟨.pending, bytes⟩ :: after) = before ++ r.toList ++ after := by
  induction before with
  | nil => simp [replacePending]
  | cons f rest ih =>
    rw [List.cons_append, replacePending, if_neg (h f (by simp)), ih fun x hx => h x (by simp [hx])]
    rfl

theorem find?_pending (before after : List InboundFrame) (bytes : List Byte) (h : ∀ f ∈ before, f.state ≠ .pending) :
    (before ++ ⟨.pending, bytes⟩ :: after).find? (·.state == .pending) = some ⟨.pending, bytes⟩ := by
  rw [List.find?_append, List.find?_eq_none.mpr (by simpa using h)]
  rfl

/-- The oldest PENDING frame is claimed, and stands in its place as the claim leaves it. -/
theorem State.qualify_of_pending (s : State) (bytes : List Byte) (before after : List InboundFrame)
    (hin : s.inbound = before ++ ⟨.pending, bytes⟩ :: after) (h : ∀ f ∈ before, f.state ≠ .pending) :
    s.qualify =
      { (s.claimFrame bytes).state with
        inbound := before ++ ((s.claimFrame bytes).frame bytes).toList ++ after }.handOver := by
  unfold State.qualify
  rw [hin, find?_pending before after bytes h]
  dsimp only
  rw [(s.claimFrame_works bytes).sameSides.inbound, hin, replacePending_first _ before after bytes h]

theorem State.qualify_of_none (s : State) (h : ∀ f ∈ s.inbound, f.state ≠ .pending) : s.qualify = s := by
  unfold State.qualify
  rw [List.find?_eq_none.mpr (by simpa using h)]

/-- No arrival of a claim touches the map. -/
theorem FrameClaim.take_map (c : FrameClaim) (a : Arrival) : (c.take a).state.map = c.state.map := by
  by_cases hopen : a.entry ∈ c.closed
  · rw [c.take_closed a hopen]
  by_cases hsplit : ∃ e i, a = .split e i
  · obtain ⟨e, i, rfl⟩ := hsplit
    rw [c.take_split e i hopen]
    simp [State.splitHalf]
  · obtain ⟨places, raw, htake⟩ := c.take_eq_schedule a hopen (by simpa using hsplit)
    rw [htake]
    exact (State.boundarySwitch_map _ _).trans (c.state.evaluate_map _ raw)

theorem FrameClaim.takes_map (c : FrameClaim) (l : List Arrival) : (l.foldl FrameClaim.take c).state.map = c.state.map := by
  induction l generalizing c with
  | nil => rfl
  | cons a rest ih => exact (ih (c.take a)).trans (c.take_map a)

theorem State.claimFrame_map (s : State) (bytes : List Byte) : (s.claimFrame bytes).state.map = s.map :=
  FrameClaim.takes_map _ _

/-- The end of a frame claim: the queue as the claim leaves it, the hand-over, and the withdrawal of the promotion. -/
def State.afterClaim (s : State) (l : List InboundFrame) : State :=
  ({ s with inbound := l } : State).handOver.withdrawPromotion

@[simp] theorem State.afterClaim_table (s : State) (l : List InboundFrame) : (s.afterClaim l).table = s.table :=
  State.withdrawPromotion_table _
@[simp] theorem State.afterClaim_report (s : State) (l : List InboundFrame) : (s.afterClaim l).report = s.report :=
  State.withdrawPromotion_report _
@[simp] theorem State.afterClaim_commit (s : State) (l : List InboundFrame) : (s.afterClaim l).commit = s.commit :=
  State.withdrawPromotion_commit _
@[simp] theorem State.afterClaim_inbound (s : State) (l : List InboundFrame) : (s.afterClaim l).inbound = l :=
  State.withdrawPromotion_inbound _
theorem State.afterClaim_entry (s : State) (l : List InboundFrame) (i : Nat) : (s.afterClaim l).entry i = s.entry i :=
  s.entry_congr _ i (s.afterClaim_table l)

/-- The command as the state it leaves. -/
theorem exec_frameClaim (s : State) (bytes : List Byte) (before after : List InboundFrame) (hdone : s.tickDone = true)
    (hin : s.inbound = before ++ ⟨.pending, bytes⟩ :: after) (h : ∀ f ∈ before, f.state ≠ .pending) :
    exec .frameClaim s = .next
      ((s.claimFrame bytes).state.afterClaim (before ++ ((s.claimFrame bytes).frame bytes).toList ++ after)) :=
  takeClaim_eq State.qualify s _ hdone (s.qualify_of_pending bytes before after hin h)

/-- What a frame claim leaves of the rest of the device, and what it hands to the groups. -/
theorem State.claimFrame_rest (s : State) (bytes : List Byte) (inbound : List InboundFrame) (hfour : s.groups.length = 4) :
    let t := (s.claimFrame bytes).state.afterClaim inbound
    t.map = s.map ∧ t.agent = s.agent ∧ t.hPort = s.hPort ∧ t.fPort = s.fPort ∧ s.handsOver t := by
  have hsides := (s.claimFrame_works bytes).sameSides
  intro t
  refine ⟨by simp [t, State.afterClaim, s.claimFrame_map], by simp [t, State.afterClaim, hsides.agent],
    by simp [t, State.afterClaim, hsides.hPort], by simp [t, State.afterClaim, hsides.fPort],
    s.withdrawPromotion_handsOver _ ?_⟩
  exact s.handsOver_of { (s.claimFrame bytes).state with inbound := inbound } _ hfour
    (s.claimFrame_works bytes).groups (congrArg Agent.settings hsides.agent) rfl rfl rfl

/-! ## The roles (Table 31) -/

theorem State.roleOf_unmapped (s : State) (node : Nat) (x : Sample) (hq : x.qualified = false)
    (h : s.lookup node x.channel = none) : s.roleOf node x = .untouched := by
  simp [State.roleOf, hq, h]

theorem State.roleOf_upper (s : State) (node : Nat) (x : Sample) (e : Nat) (hq : x.qualified = false)
    (h : s.lookup node x.channel = some e) (hpaired : s.pairedUpper e = true) :
    s.roleOf node x = if s.mapped (e - 1) && (s.entry (e - 1)).live.enable then .upper (e - 1) else .untouched := by
  simp [State.roleOf, hq, h, hpaired]

theorem State.roleOf_lower (s : State) (node : Nat) (x : Sample) (e : Nat) (hq : x.qualified = false)
    (h : s.lookup node x.channel = some e) (hpaired : s.pairedUpper e = false) :
    s.roleOf node x =
      if (s.entry e).live.enable then if (s.entry e).live.pair then .lower e else .single e else .untouched := by
  simp [State.roleOf, hq, h, hpaired]

theorem arrivalsOf_untouched (roles : List Role) (h : ∀ r ∈ roles, r = .untouched) : arrivalsOf roles = [] := by
  unfold arrivalsOf
  rw [List.filterMap_eq_nil_iff]
  intro i hi
  have hrole : roles.getD i .untouched = .untouched := by
    rw [List.getD_eq_getElem?_getD]
    cases hget : roles[i]? with
    | none => rfl
    | some r => exact h r (List.mem_of_getElem? hget)
  rw [arrivalAt, hrole]

/-- Where the groups stand as the table has them, a hand-over changes nothing (R135). -/
theorem State.handOver_of_tripLaw (s : State) (h : s.tripLaw) (hdue : s.staleDue = []) : s.handOver = s := by
  obtain ⟨hfour, -, hset⟩ := h
  have hgroups : s.groups.zipIdx.map (fun x => s.handGroup x.2 x.1) = s.groups := by
    refine List.ext_getElem (by simp) fun g hg hg' => ?_
    have hgroup := hset hdue g (by omega)
    rw [State.group, List.getD_eq_getElem?_getD, List.getElem?_eq_getElem hg'] at hgroup
    simp only [List.getElem_map, List.getElem_zipIdx, Nat.zero_add]
    exact if_pos hgroup.symm
  rw [State.handOver, hgroups]

/-- Settles O35. -/
theorem untouchedFrameBecomesReady : Obligations.UntouchedFrameBecomesReady := by
  refine ⟨fun s bytes before after hdone hlaw hin hbefore huntouched => ?_, fun s hdone hnone =>
    takeClaim_eq State.qualify s s hdone (s.qualify_of_none hnone),
    fun s bytes before after hdone hfour hin hbefore => ?_, fun c a ha => c.take_closed a ha, fun s node x => ?_⟩
  · have hclaim : s.claimFrame bytes = ⟨s, (frameSamples bytes).map some, [], false⟩ := by
      unfold State.claimFrame
      dsimp only
      rw [arrivalsOf_untouched _ fun r hr => by
        obtain ⟨x, hx, rfl⟩ := List.mem_map.mp hr
        exact huntouched x hx]
      rfl
    have hframe : (s.claimFrame bytes).frame bytes = some ⟨.ready, bytes⟩ := by rw [hclaim]; rfl
    rw [exec_frameClaim s bytes before after hdone hin hbefore, hframe, hclaim]
    rw [State.afterClaim, State.handOver_of_inbound, s.handOver_of_tripLaw hlaw (s.staleDue_of_tickDone hdone)]
    simp
  · intro samples arrivals c left
    refine ⟨_, exec_frameClaim s bytes before after hdone hin hbefore, ?_⟩
    obtain ⟨hmap, hagent, hhPort, hfPort, hover⟩ := s.claimFrame_rest bytes
      (before ++ ((s.claimFrame bytes).frame bytes).toList ++ after) hfour
    have hframe : (s.claimFrame bytes).frame bytes
        = if !c.changed then some ⟨.ready, bytes⟩ else if left.isEmpty then none
          else some ⟨.ready, sampleFrameBytes (byteAt bytes 1) left⟩ := rfl
    refine ⟨State.afterClaim_table _ _, State.afterClaim_report _ _, State.afterClaim_commit _ _, hmap, hagent, hhPort,
      hfPort, hover, fun hsame => ?_, fun hchanged hleft => ?_, fun hchanged hleft => ?_⟩
    · rw [State.afterClaim_inbound, hframe, hsame]
      simp
    · rw [State.afterClaim_inbound, hframe, hchanged]
      simp [hleft]
    · rw [State.afterClaim_inbound, hframe, hchanged]
      simp [hleft]
  · refine ⟨fun hq => by simp [State.roleOf, hq], s.roleOf_unmapped node x, fun e hq hlookup => ?_⟩
    have hlower : ¬(e % 2 = 1 ∧ (s.entry (e - 1)).live.pair = true) → s.pairedUpper e = false := fun h => by
      rw [Bool.eq_false_iff, Ne, State.pairedUpper_iff]
      exact h
    refine ⟨fun h henable => ?_, fun h henable hpair => ?_, fun h henable hpair => ?_, fun h hmapped henable => ?_,
      fun h hoff => ?_⟩
    · simp [s.roleOf_lower node x e hq hlookup (hlower h), henable]
    · simp [s.roleOf_lower node x e hq hlookup (hlower h), henable, hpair]
    · simp [s.roleOf_lower node x e hq hlookup (hlower h), henable, hpair]
    · simp [s.roleOf_upper node x e hq hlookup ((s.pairedUpper_iff e).mpr h), hmapped, henable]
    · rw [s.roleOf_upper node x e hq hlookup ((s.pairedUpper_iff e).mpr h), if_neg]
      rcases hoff with hm | hen
      · simp [hm]
      · simp [hen]

/-! ## A frame of one sample in the single role -/

/-- The claim of a frame of one sample takes that sample's arrival alone. -/
theorem State.claimFrame_single (s : State) (node : Byte) (x : Sample) (e : Nat)
    (hlookup : s.lookup node.toNat x.channel = some e) (hq : x.qualified = false) (hpaired : s.pairedUpper e = false)
    (henable : (s.entry e).live.enable = true) (hpair : (s.entry e).live.pair = false) :
    s.claimFrame (sampleFrameBytes node [x]) = FrameClaim.take ⟨s, [some x], [], false⟩ (.single e 0) := by
  obtain ⟨-, hnode, -, hsamples⟩ := sampleFrame_fields node [x] (by simp)
  have hrole : s.roleOf node.toNat x = .single e := by
    simp [s.roleOf_lower node.toNat x e hq hlookup hpaired, henable, hpair]
  have hroles : [x].map (s.roleOf node.toNat) = [.single e] := by rw [List.map_cons, hrole, List.map_nil]
  unfold State.claimFrame
  dsimp only
  rw [hsamples, frameNode, hnode, hroles]
  rfl

theorem evaluates_single (s : State) (x : Sample) (e : Nat) :
    FrameClaim.evaluates ⟨s, [some x], [], false⟩ (.single e 0) e [0] (if x.valid then some x.value.toInt else none) :=
  .inl ⟨0, x, rfl, rfl, rfl, rfl⟩

/-- The frame of one sample goes on with the sample tagged, or is dropped (R77, R78). -/
theorem FrameClaim.frame_single (c d : FrameClaim) (node : Byte) (x : Sample) (kept : Bool) (tag : Tag)
    (hc : c.samples = [some x]) (hdecided : c.decided d [0] kept tag) (hchanged : d.changed = true) :
    (d.frame (sampleFrameBytes node [x])).toList
      = if kept then [⟨.ready, sampleFrameBytes node [x.tagged tag]⟩] else [] := by
  obtain ⟨hat, hothers⟩ := hdecided
  have hsamples : d.samples = [if kept then some (x.tagged tag) else none] := by
    refine List.ext_getElem? fun i => ?_
    cases i with
    | zero => exact hat 0 (by simp) x (by simp [hc])
    | succ i => rw [hothers (i + 1) (by simp), hc]; rfl
  obtain ⟨-, hnode, -⟩ := sampleFrame_fields node [x] (by simp)
  unfold FrameClaim.frame
  dsimp only
  rw [hsamples, hchanged, hnode]
  cases kept <;> rfl

/-- Settles O36: the single frame by the arrival it takes, each arrival by what `FrameClaim.take` leaves. -/
theorem singleSampleIsQualified : Obligations.SingleSampleIsQualified := by
  have harrival : ∀ (c : FrameClaim) (a : Arrival) (e : Nat) (places : List Nat) (raw : Option Int),
      c.evaluates a e places raw → c.state.table.length = 96 → e < 96 → e ∉ c.closed →
      (c.state.entry e).run.waiting = false →
      (c.take a).state = c.state.arrived e raw
        ∧ (c.decided (c.take a) places ((c.state.entry e).live.keeps (c.state.entry e).run raw)
            ((c.state.entry e).live.tagOf (c.state.entry e).run raw))
        ∧ (c.take a).closed = c.closed ∧ (c.take a).changed = true :=
    fun c a e places raw h hlength he hopen hwaits => by
      have hin : e < c.state.table.length := hlength ▸ he
      obtain ⟨hstate, hclosed, hchanged⟩ := c.take_without_switch a e places raw h hopen hin (.inl hwaits)
      exact ⟨hstate, c.take_decided a e places raw h hopen hin, hclosed, hchanged⟩
  refine ⟨fun s node x e hdone hlength he hfour hinbound hlookup hq hvalid hpaired henable hpair hwaits => ?_,
    fun c a e places raw h hlength he hopen hwaits => ?_, fun c e place hlength he hopen => ?_⟩
  · intro r run v verdict kept
    have hin : e < s.table.length := hlength ▸ he
    obtain ⟨hstate, hdecided, -, hchanged⟩ := harrival ⟨s, [some x], [], false⟩ (.single e 0) e [0] _
      (evaluates_single s x e) hlength he (by simp) hwaits
    rw [← s.claimFrame_single node x e hlookup hq hpaired henable hpair] at hstate hdecided hchanged
    rw [if_pos hvalid] at hstate hdecided
    dsimp only at hstate hdecided
    have hframe := FrameClaim.frame_single _ _ node x _ _ rfl hdecided hchanged
    obtain ⟨hmap, hagent, hhPort, hfPort, hover⟩ := s.claimFrame_rest (sampleFrameBytes node [x])
      ([] ++ ((s.claimFrame (sampleFrameBytes node [x])).frame (sampleFrameBytes node [x])).toList ++ []) hfour
    refine ⟨_, exec_frameClaim s _ [] [] hdone hinbound (by simp), ?_⟩
    refine ⟨?_, ?_, ?_, fun i hi => ?_, ?_, ?_, hover, hmap, ?_, hagent, hhPort, hfPort⟩
    · rw [State.afterClaim_entry, hstate, s.arrived_entry_self e _ hin]
      rfl
    · rw [State.afterClaim_entry, hstate, s.arrived_entry_self e _ hin]
    · rw [State.afterClaim_entry, hstate, s.arrived_entry_self e _ hin]
    · rw [State.afterClaim_entry, hstate, s.arrived_entry_other e i _ hi]
    · rw [State.afterClaim_inbound, hframe, List.nil_append, List.append_nil]
      rfl
    · rw [State.afterClaim_report, hstate, s.arrived_eq]
      rfl
    · rw [State.afterClaim_commit, hstate, s.arrived_eq]
  · obtain ⟨hstate, hdecided, hclosed, hchanged⟩ := harrival c a e places raw h hlength he hopen hwaits
    intro s x d
    refine ⟨?_, fun i hi => ?_, ?_, hdecided, hclosed, hchanged⟩
    · rw [hstate, s.arrived_entry_self e raw (hlength ▸ he)]
    · rw [hstate, s.arrived_entry_other e i raw hi]
    · rw [hstate]
      exact s.arrived_eq e raw
  · intro s run d
    have hd : d = { c with state := s.splitHalf e } := c.take_split e place hopen
    rw [hd]
    exact ⟨s.splitHalf_entry_self e (hlength ▸ he), fun i hi => s.splitHalf_entry_other e i hi,
      s.splitHalf_eq e (hlength ▸ he), rfl, rfl, rfl⟩

end Sys2Proof.Machine
end

section
/-! SUPPORT. The switch of a waiting unit at its schedule boundary (R66, R101 to R103, R107). -/

namespace Sys2Proof.Machine

open Sys2Proof Relation

theorem State.arrived_commit (s : State) (e : Nat) (raw : Option Int) : (s.arrived e raw).commit = s.commit := by
  rw [s.arrived_eq]

theorem State.arrived_queue (s : State) (e : Nat) (raw : Option Int) :
    (s.arrived e raw).report.queue = s.queueAfter e raw := by
  rw [s.arrived_eq]

theorem State.arrived_map (s : State) (e : Nat) (raw : Option Int) : (s.arrived e raw).map = s.map := by
  rw [s.arrived_eq]

/-- An entry of a unit that switches after an arrival, seen from the state before the arrival (R101, R102). -/
theorem State.switched_after_arrival (s : State) (e i : Nat) (raw : Option Int) :
    s.switchedTo s.commit.generation false i ((s.arrived e raw).entry i)
      ((s.arrived e raw).switchedEntry false i ((s.arrived e raw).entry i)) := by
  have hslots := fun j => s.arrived_slots e j raw
  have hswitch := (s.arrived e raw).switchedEntry_switchedTo false i ((s.arrived e raw).entry i)
  rw [s.arrived_commit e raw] at hswitch
  refine s.switchedTo_congr (s.arrived e raw) _ false i _ _ ?_ (hslots (i - 1)).2 ?_ hswitch
  · simp [State.pairedUpper, hslots]
  · exact s.watched_congr _ i (s.arrived_map e raw) fun j => (hslots j).1

/-- The entries that wait after an arrival are those that waited before it. -/
theorem State.arrived_waiting (s : State) (e i : Nat) (raw : Option Int) :
    ((s.arrived e raw).entry i).run.waiting = (s.entry i).run.waiting := by
  by_cases hi : i = e
  · subst hi
    by_cases h : i < s.table.length
    · rw [s.arrived_entry_self i raw h]
      rfl
    · rw [State.entry_of_le _ i (by rw [s.arrived_length]; omega), s.entry_of_le i (by omega)]
  · rw [s.arrived_entry_other e i raw hi]

theorem State.arrived_waitsOnlyIn (s : State) (e : Nat) (raw : Option Int) (entries : List Nat) :
    (s.arrived e raw).waitsOnlyIn entries ↔ s.waitsOnlyIn entries := by
  simp only [State.waitsOnlyIn, s.arrived_waiting]

theorem State.arrived_entry (s : State) (e i : Nat) (raw : Option Int) (h : e < s.table.length) :
    (s.arrived e raw).entry i
      = if i = e then { s.entry e with run := (s.entry e).live.runAfter (s.entry e).run raw } else s.entry i := by
  split_ifs with hi
  · rw [hi, s.arrived_entry_self e raw h]
  · exact s.arrived_entry_other e i raw hi

/-- After the switch of its unit each entry of the unit is switched from where the arrival left it, and no other entry
changes. -/
theorem State.boundary_entries (s : State) (e : Nat) (raw : Option Int) (hlength : s.table.length = 96) (he : e < 96) :
    let taken := { s.entry e with run := (s.entry e).live.runAfter (s.entry e).run raw }
    let u := ((s.arrived e raw).switchUnit e false).completeIfEmpty
    (∀ i ∈ s.unit e, s.switchedTo s.commit.generation false i (if i = e then taken else s.entry i) (u.entry i))
      ∧ ∀ i, i ∉ s.unit e → u.entry i = s.entry i := by
  intro taken u
  have hunit : (s.arrived e raw).unit e = s.unit e := s.unit_congr _ e fun i => s.arrived_slots e i raw
  have htable : u.table = ((s.arrived e raw).switchUnit e false).table := State.completeIfEmpty_table _
  have hentry := fun i => s.arrived_entry e i raw (hlength ▸ he)
  refine ⟨fun i hi => ?_, fun i hi => ?_⟩
  · have hlt : i < (s.arrived e raw).table.length := by
      rw [s.arrived_length, hlength]
      exact s.mem_unit_lt e i he hi
    rw [State.entry_congr _ u i htable, State.switchUnit_entry_of_mem _ e i false hlt (hunit ▸ hi), ← hentry i]
    exact s.switched_after_arrival e i raw
  · rw [State.entry_congr _ u i htable, State.switchUnit_entry_of_not_mem _ e i false (hunit ▸ hi), hentry i, if_neg]
    rintro rfl
    exact hi (s.mem_unit_self i)

/-- The completion at a boundary, with COMMIT-DONE after the arrival's events, exactly where no other unit waits (R107). -/
theorem State.boundary_completes (s : State) (e : Nat) (raw : Option Int) (hlength : s.table.length = 96) :
    let u := ((s.arrived e raw).switchUnit e false).completeIfEmpty
    (s.commit.pending = true → s.waitsOnlyIn (s.unit e) →
        u.commit = { s.commit with pending := false, deadline := 0 }
          ∧ u.report.queue = placeEvent s.commit.generation s.commitDone (s.queueAfter e raw))
      ∧ (s.commit.pending = false ∨ ¬s.waitsOnlyIn (s.unit e) →
          u.commit = s.commit ∧ u.report.queue = s.queueAfter e raw) := by
  have hunit : (s.arrived e raw).unit e = s.unit e := s.unit_congr _ e fun i => s.arrived_slots e i raw
  have hcommit := s.arrived_commit e raw
  obtain ⟨hdone, hstays⟩ := (s.arrived e raw).switchUnit_completes e ((s.arrived_length e raw).trans hlength)
  rw [hunit, s.arrived_waitsOnlyIn] at hdone hstays
  rw [hcommit, s.arrived_queue e raw] at hdone
  rw [hcommit] at hstays
  refine ⟨fun hpending honly => ?_, fun hothers => ?_⟩
  · obtain ⟨hcommit', hqueue⟩ := hdone hpending honly
    refine ⟨hcommit', ?_⟩
    rw [hqueue, show (s.arrived e raw).commitDone = s.commitDone by rw [State.commitDone, hcommit, State.commitDone]]
  · rw [hstays hothers, State.switchUnit_commit, State.switchUnit_report]
    exact ⟨hcommit, s.arrived_queue e raw⟩

theorem State.unitUpper_of_single (s : State) (e : Nat) (h : s.unit e = [e]) : s.unitUpper e = false := by
  rw [Bool.eq_false_iff]
  intro hupper
  have hodd := ((s.unitUpper_iff e).mp hupper).1
  have hlower : s.unitLower e ∈ s.unit e := (s.mem_unit_iff e _).mpr (.inl rfl)
  rw [h, List.mem_singleton, s.unitLower_of_upper e hupper] at hlower
  omega

/-- Settles O37: an evaluated arrival is taken under the old record, and `State.boundarySwitch` decides what follows. -/
theorem boundarySwitchesAWaitingEntry : Obligations.BoundarySwitchesAWaitingEntry := by
  refine ⟨fun s node x e hdone hlength he hfour hinbound hlookup hq hpaired henable hpair hunit hwaits => ?_,
    fun c a e places raw h hlength he hopen hwaits hupper => ?_,
    fun c a e places raw h hlength he hopen hwaits hlower => ?_⟩
  · intro old raw
    have hin : e < s.table.length := hlength ▸ he
    have hclaim := s.claimFrame_single node x e hlookup hq hpaired henable hpair
    have hevaluates := evaluates_single s x e
    obtain ⟨-, -, -, -, hover⟩ := s.claimFrame_rest (sampleFrameBytes node [x])
      ([] ++ ((s.claimFrame (sampleFrameBytes node [x])).frame (sampleFrameBytes node [x])).toList ++ []) hfour
    refine ⟨_, exec_frameClaim s _ [] [] hdone hinbound (by simp), hover, fun hboundary => ?_, fun hshort => ?_⟩
    · obtain ⟨hstate, -⟩ := FrameClaim.take_at_boundary _ _ e [0] raw hevaluates (by simp) hin hwaits
        (s.unitUpper_of_single e hunit) hboundary
      obtain ⟨hentries, -⟩ := s.boundary_entries e raw hlength he
      have hself := hentries e (s.mem_unit_self e)
      rw [if_pos rfl] at hself
      rw [State.afterClaim_entry, hclaim, hstate]
      exact hself
    · obtain ⟨hstate, -, -⟩ := FrameClaim.take_without_switch _ _ e [0] raw hevaluates (by simp) hin
        (.inr (.inl (Nat.ne_of_lt hshort)))
      rw [State.afterClaim_entry, State.afterClaim_commit, hclaim, hstate]
      exact ⟨s.arrived_entry_self e raw hin, s.arrived_commit e raw⟩
  · intro s x d
    have hin : e < s.table.length := hlength ▸ he
    obtain ⟨hstate, hclosed, hchanged⟩ := c.take_without_switch a e places raw h hopen hin (.inr (.inr hupper))
    refine ⟨?_, fun i hi => ?_, ?_, c.take_decided a e places raw h hopen hin, hclosed, hchanged⟩
    · rw [hstate, s.arrived_entry_self e raw hin]
    · rw [hstate, s.arrived_entry_other e i raw hi]
    · rw [hstate]
      exact s.arrived_eq e raw
  · intro s old taken d
    have hin : e < s.table.length := hlength ▸ he
    refine ⟨c.take_decided a e places raw h hopen hin, fun hboundary => ?_, fun hshort => ?_⟩
    · obtain ⟨hstate, hclosed⟩ := c.take_at_boundary a e places raw h hopen hin hwaits hlower hboundary
      obtain ⟨hentries, hothers⟩ := s.boundary_entries e raw hlength he
      obtain ⟨hcompletes, hstays⟩ := s.boundary_completes e raw hlength
      rw [← hstate] at hentries hothers hcompletes hstays
      refine ⟨hentries, hothers, hcompletes, hstays, fun hsameEnable hsamePair => ?_, fun hchanges b hb => ?_⟩
      · exact hclosed.trans (if_pos ⟨hsameEnable, hsamePair⟩)
      · refine d.take_closed b ?_
        rw [show d.closed = s.unit e ++ c.closed from hclosed.trans (if_neg fun ⟨hsameEnable, hsamePair⟩ =>
          hchanges.elim (fun hne => hne hsameEnable) fun hne => hne hsamePair)]
        exact List.mem_append_left _ hb
    · obtain ⟨hstate, hclosed, -⟩ := c.take_without_switch a e places raw h hopen hin
        (.inr (.inl (Nat.ne_of_lt hshort)))
      rw [hstate]
      exact ⟨s.arrived_entry_self e raw hin, fun i hi => s.arrived_entry_other e i raw hi, hclosed,
        s.arrived_commit e raw, s.arrived_queue e raw⟩

end Sys2Proof.Machine
end

section
/-! SUPPORT. The arrivals of a frame: which halves go together, and in which order they are taken (R47, R48, R76). -/

namespace Sys2Proof.Machine

open Sys2Proof Relation

/-! ## The places of a role -/

/-- How many samples of a role stand before a place. -/
def rankOf (roles : List Role) (r : Role) (i : Nat) : Nat := (roles.take i).countP (· == r)

theorem getD_of_getElem? (roles : List Role) (i : Nat) (r : Role) (h : roles[i]? = some r) : roles.getD i .untouched = r := by
  simp [List.getD_eq_getElem?_getD, h]

theorem getElem?_of_getD (roles : List Role) (i : Nat) (r : Role) (hi : i < roles.length)
    (h : roles.getD i .untouched = r) : roles[i]? = some r := by
  rw [List.getD_eq_getElem?_getD, List.getElem?_eq_getElem hi, Option.getD_some] at h
  rw [List.getElem?_eq_getElem hi, h]

theorem getElem?_of_getD_ne (roles : List Role) (i : Nat) (r : Role) (h : roles.getD i .untouched = r)
    (hr : r ≠ .untouched) : roles[i]? = some r := by
  refine getElem?_of_getD roles i r (Nat.lt_of_not_le fun hle => hr ?_) h
  rw [← h, List.getD_eq_getElem?_getD, List.getElem?_eq_none hle, Option.getD_none]

theorem mem_placesOf (roles : List Role) (r : Role) (i : Nat) : i ∈ placesOf roles r ↔ roles[i]? = some r := by
  rw [placesOf, List.mem_filter, List.mem_range, beq_iff_eq]
  refine ⟨fun ⟨hi, h⟩ => getElem?_of_getD roles i r hi h, fun h => ⟨?_, getD_of_getElem? roles i r h⟩⟩
  exact (List.getElem?_eq_some_iff.mp h).1

theorem placesOf_nodup (roles : List Role) (r : Role) : (placesOf roles r).Nodup :=
  List.nodup_range.filter _

theorem take_eq_map_getD (roles : List Role) (i : Nat) (hi : i ≤ roles.length) :
    roles.take i = (List.range i).map fun n => roles.getD n .untouched := by
  refine List.ext_getElem (by simpa using hi) fun n hn hn' => ?_
  have hlt : n < roles.length := by simp at hn; omega
  simp [List.getD_eq_getElem?_getD, hlt]

/-- The rank of a place counts the places of its role before it. -/
theorem rankOf_eq_length (roles : List Role) (r : Role) (i : Nat) (hi : i ≤ roles.length) :
    rankOf roles r i = ((List.range i).filter fun n => roles.getD n .untouched == r).length := by
  rw [rankOf, take_eq_map_getD roles i hi, List.countP_map, List.countP_eq_length_filter]
  rfl

/-- A place stands among the places of its role at its rank. -/
theorem placesOf_rank (roles : List Role) (r : Role) (i : Nat) (h : roles[i]? = some r) :
    (placesOf roles r)[rankOf roles r i]? = some i := by
  obtain ⟨hi, -⟩ := List.getElem?_eq_some_iff.mp h
  obtain ⟨later, hsplit⟩ : ∃ later, List.range roles.length = List.range i ++ i :: later := by
    refine ⟨(List.range (roles.length - i - 1)).map fun n => i + (n + 1), ?_⟩
    conv_lhs => rw [show roles.length = i + (roles.length - i - 1 + 1) by omega, List.range_add, List.range_succ_eq_map]
    simp
  rw [placesOf, hsplit, List.filter_append,
    List.filter_cons_of_pos (p := fun n => roles.getD n .untouched == r) (beq_iff_eq.mpr (getD_of_getElem? roles i r h)),
    rankOf_eq_length roles r i hi.le, List.getElem?_append_right le_rfl, Nat.sub_self]
  rfl

theorem placesOf_getElem?_iff (roles : List Role) (r : Role) (k i : Nat) :
    (placesOf roles r)[k]? = some i ↔ roles[i]? = some r ∧ rankOf roles r i = k := by
  constructor
  · intro h
    have hrole := (mem_placesOf roles r i).mp (List.mem_of_getElem? h)
    have hrank := placesOf_rank roles r i hrole
    obtain ⟨hlt, -⟩ := List.getElem?_eq_some_iff.mp hrank
    exact ⟨hrole, (List.getElem?_inj hlt (placesOf_nodup roles r)).mp (hrank.trans h.symm)⟩
  · rintro ⟨hrole, rfl⟩
    exact placesOf_rank roles r i hrole

theorem partnerPlace_eq_some (roles : List Role) (own partner : Role) (i j : Nat) :
    partnerPlace roles own partner i = some j ↔ roles[j]? = some partner ∧ rankOf roles partner j = rankOf roles own i :=
  placesOf_getElem?_iff roles partner _ j

theorem partnerPlace_eq_none (roles : List Role) (own partner : Role) (i : Nat) :
    partnerPlace roles own partner i = none ↔ (placesOf roles partner).length ≤ rankOf roles own i :=
  List.getElem?_eq_none_iff

/-- The places as the statement spells them. -/
theorem placesOf_eq_filter (roles : List Role) (r : Role) :
    ((List.range roles.length).filter fun n => roles[n]? == some r) = placesOf roles r := by
  refine List.filter_congr fun n hn => ?_
  have hlt := List.mem_range.mp hn
  simp [List.getD_eq_getElem?_getD, hlt]

/-! ## The arrival at a place -/

/-- What an arrival is of, and the place at which it is taken (R47, R48). -/
def Arrival.takenAt (roles : List Role) (p : Nat) : Arrival → Prop
  | .single e i => p = i ∧ roles[i]? = some (.single e)
  | .matched e i j =>
    p = min i j ∧ roles[i]? = some (.lower e) ∧ roles[j]? = some (.upper e)
      ∧ rankOf roles (.lower e) i = rankOf roles (.upper e) j
  | .split e i =>
    p = i ∧ ((roles[i]? = some (.lower e) ∧ (placesOf roles (.upper e)).length ≤ rankOf roles (.lower e) i)
      ∨ (roles[i]? = some (.upper e) ∧ (placesOf roles (.lower e)).length ≤ rankOf roles (.upper e) i))

theorem takenAt_of_arrivalAt (roles : List Role) (p : Nat) (a : Arrival) (h : arrivalAt roles p = some a) :
    a.takenAt roles p := by
  unfold arrivalAt at h
  split at h
  · simp at h
  · rename_i e hrole
    obtain rfl := Option.some.inj h
    exact ⟨rfl, getElem?_of_getD_ne roles p _ hrole (by simp)⟩
  · rename_i e hrole
    have hlower := getElem?_of_getD_ne roles p _ hrole (by simp)
    cases hpartner : partnerPlace roles (.lower e) (.upper e) p with
    | none =>
      rw [hpartner] at h
      obtain rfl := Option.some.inj h
      exact ⟨rfl, .inl ⟨hlower, (partnerPlace_eq_none ..).mp hpartner⟩⟩
    | some j =>
      obtain ⟨hupper, hrank⟩ := (partnerPlace_eq_some ..).mp hpartner
      rw [hpartner] at h
      dsimp only at h
      split_ifs at h with hfirst
      obtain rfl := Option.some.inj h
      exact ⟨(Nat.min_eq_left hfirst.le).symm, hlower, hupper, hrank.symm⟩
  · rename_i e hrole
    have hupper := getElem?_of_getD_ne roles p _ hrole (by simp)
    cases hpartner : partnerPlace roles (.upper e) (.lower e) p with
    | none =>
      rw [hpartner] at h
      obtain rfl := Option.some.inj h
      exact ⟨rfl, .inr ⟨hupper, (partnerPlace_eq_none ..).mp hpartner⟩⟩
    | some j =>
      obtain ⟨hlower, hrank⟩ := (partnerPlace_eq_some ..).mp hpartner
      rw [hpartner] at h
      dsimp only at h
      split_ifs at h with hfirst
      obtain rfl := Option.some.inj h
      exact ⟨(Nat.min_eq_right hfirst.le).symm, hlower, hupper, hrank⟩

theorem arrivalAt_of_takenAt (roles : List Role) (p : Nat) (a : Arrival) (h : a.takenAt roles p) :
    arrivalAt roles p = some a := by
  unfold arrivalAt
  cases a with
  | single e i =>
    obtain ⟨rfl, hrole⟩ := h
    rw [getD_of_getElem? roles p _ hrole]
  | split e i =>
    obtain ⟨rfl, ⟨hrole, hnone⟩ | ⟨hrole, hnone⟩⟩ := h
    · rw [getD_of_getElem? roles p _ hrole]
      dsimp only
      rw [(partnerPlace_eq_none ..).mpr hnone]
    · rw [getD_of_getElem? roles p _ hrole]
      dsimp only
      rw [(partnerPlace_eq_none ..).mpr hnone]
  | matched e i j =>
    obtain ⟨hp, hlower, hupper, hrank⟩ := h
    rcases Nat.lt_trichotomy i j with hlt | rfl | hlt
    · obtain rfl := hp.trans (Nat.min_eq_left hlt.le)
      rw [getD_of_getElem? roles p _ hlower]
      dsimp only
      rw [(partnerPlace_eq_some roles _ _ p j).mpr ⟨hupper, hrank.symm⟩]
      exact if_pos hlt
    · rw [hlower] at hupper
      simp at hupper
    · obtain rfl := hp.trans (Nat.min_eq_right hlt.le)
      rw [getD_of_getElem? roles p _ hupper]
      dsimp only
      rw [(partnerPlace_eq_some roles _ _ p i).mpr ⟨hlower, hrank⟩]
      exact if_pos hlt

theorem mem_arrivalsOf (roles : List Role) (a : Arrival) : a ∈ arrivalsOf roles ↔ ∃ p, a.takenAt roles p := by
  rw [arrivalsOf, List.mem_filterMap]
  constructor
  · rintro ⟨p, -, h⟩
    exact ⟨p, takenAt_of_arrivalAt roles p a h⟩
  · rintro ⟨p, h⟩
    have hat := arrivalAt_of_takenAt roles p a h
    refine ⟨p, List.mem_range.mpr (Nat.lt_of_not_le fun hle => ?_), hat⟩
    rw [arrivalAt, List.getD_eq_getElem?_getD, List.getElem?_eq_none hle] at hat
    simp at hat

/-- The place of the first half of an arrival. -/
def Arrival.firstPlace : Arrival → Nat
  | .single _ i => i
  | .matched _ i j => min i j
  | .split _ i => i

theorem firstPlace_of_takenAt (roles : List Role) (p : Nat) (a : Arrival) (h : a.takenAt roles p) : a.firstPlace = p := by
  cases a with
  | single e i => exact h.1.symm
  | matched e i j => exact h.1.symm
  | split e i => exact h.1.symm

/-- The arrivals stand in frame order, each at its first half (R47). -/
theorem arrivalsOf_pairwise (roles : List Role) :
    (arrivalsOf roles).Pairwise fun a b => a.firstPlace < b.firstPlace := by
  rw [arrivalsOf, List.pairwise_filterMap]
  refine List.Pairwise.imp (fun {p q} hlt a ha b hb => ?_) (List.pairwise_lt_range (n := roles.length))
  rw [firstPlace_of_takenAt roles p a (takenAt_of_arrivalAt roles p a ha),
    firstPlace_of_takenAt roles q b (takenAt_of_arrivalAt roles q b hb)]
  exact hlt

/-! ## One decision for both halves (R65, R76) -/

/-- Tagging a sample keeps its channel, its quality and its value (R65). -/
theorem Sample.tagged_keeps (x : Sample) (t : Tag) :
    (x.tagged t).channel = x.channel ∧ (x.tagged t).valid = x.valid ∧ (x.tagged t).value = x.value := by
  have hkept : ∀ i, i < 4 ∨ i = 6 → (x.tagged t).head.getLsbD i = x.head.getLsbD i := by
    intro i hi
    have hmask : (0x4F : Byte).getLsbD i = true ∧ (BitVec.ofNat 8 (128 + 16 * t.code)).getLsbD i = false := by
      have hi' : i = 0 ∨ i = 1 ∨ i = 2 ∨ i = 3 ∨ i = 6 := by omega
      rcases hi' with rfl | rfl | rfl | rfl | rfl <;> cases t <;> decide
    rw [Sample.tagged, BitVec.getLsbD_or, BitVec.getLsbD_and, hmask.1, hmask.2, Bool.and_true, Bool.or_false]
  refine ⟨congrArg BitVec.toNat (BitVec.eq_of_getLsbD_eq fun i hi => ?_), hkept 6 (.inr rfl), rfl⟩
  rw [BitVec.getLsbD_extractLsb', BitVec.getLsbD_extractLsb', Nat.zero_add, hkept i (.inl hi)]

/-- The schedule decides once for all the samples of an arrival (R76). -/
theorem FrameClaim.schedule_decided (c : FrameClaim) (e : Nat) (places : List Nat) (x : Evaluated) (h : places.Nodup) :
    c.decided (c.schedule e places x) places
      ((c.state.entry e).live.forwards (x.state.entry e).run.position x.tag x.raised) x.tag := by
  refine ⟨fun k hk z hz => ?_, fun k hk => ?_⟩
  · rw [FrameClaim.schedule]
    dsimp only
    rw [scheduled_places places c.samples _ h k, if_pos hk, hz]
    rfl
  · rw [FrameClaim.schedule]
    dsimp only
    rw [scheduled_places places c.samples _ h k, if_neg hk]

/-- Every arrival of a matched pair that is taken decides on both its halves at once. -/
theorem FrameClaim.take_matched_decided (c : FrameClaim) (e i j : Nat) (x y : Sample) (hne : i ≠ j)
    (hx : c.samples[i]? = some (some x)) (hy : c.samples[j]? = some (some y)) (hopen : e ∉ c.closed) :
    ∃ kept tag, c.decided (c.take (.matched e i j)) [i, j] kept tag := by
  have hplaces : [i, j].Nodup := by simpa using hne
  rw [c.take_evaluates (.matched e i j) e [i, j] _ (.inr ⟨i, j, x, y, hne, rfl, rfl, hx, hy, rfl⟩) hopen]
  exact ⟨_, _, c.schedule_decided e [i, j] _ hplaces⟩

/-- Settles O34: the arrivals are the places at which one is taken, a half's partner stands at its own rank among the
other halves, and the schedule decides once for all the samples of an arrival. -/
theorem matchedHalvesShareOneDecision : Obligations.MatchedHalvesShareOneDecision := by
  refine ⟨fun roles => ⟨?_, fun e i => ?_, fun e i j => ?_⟩, fun c e i j x y hne hx hy => ?_⟩
  · refine (arrivalsOf_pairwise roles).imp fun {a b} hlt => ?_
    cases a <;> cases b <;> exact hlt
  · rw [mem_arrivalsOf]
    exact ⟨fun ⟨_, _, h⟩ => h, fun h => ⟨i, rfl, h⟩⟩
  · intro lowers uppers
    have hlowers : lowers = placesOf roles (.lower e) := placesOf_eq_filter roles _
    have huppers : uppers = placesOf roles (.upper e) := placesOf_eq_filter roles _
    rw [hlowers, huppers, mem_arrivalsOf, mem_arrivalsOf]
    simp only [placesOf_getElem?_iff]
    refine ⟨⟨fun ⟨_, _, hlower, hupper, hrank⟩ => ⟨_, ⟨hlower, rfl⟩, hupper, hrank.symm⟩, ?_⟩, ⟨?_, ?_⟩⟩
    · rintro ⟨k, ⟨hlower, rfl⟩, hupper, hrank⟩
      exact ⟨min i j, rfl, hlower, hupper, hrank.symm⟩
    · rintro ⟨_, -, ⟨hrole, hnone⟩ | ⟨hrole, hnone⟩⟩
      · exact ⟨_, .inl ⟨⟨hrole, rfl⟩, hnone⟩⟩
      · exact ⟨_, .inr ⟨⟨hrole, rfl⟩, hnone⟩⟩
    · rintro ⟨k, ⟨⟨hrole, rfl⟩, hnone⟩ | ⟨⟨hrole, rfl⟩, hnone⟩⟩
      · exact ⟨i, rfl, .inl ⟨hrole, hnone⟩⟩
      · exact ⟨i, rfl, .inr ⟨hrole, hnone⟩⟩
  · intro d
    by_cases hopen : e ∈ c.closed
    · have hd : d = c := c.take_closed (.matched e i j) hopen
      rw [hd]
      refine ⟨by simp [List.getD_eq_getElem?_getD, hx, hy], fun _ _ _ => rfl, fun z hz => ?_, fun z hz => ?_⟩
      · obtain rfl := Option.some.inj (Option.some.inj (hx.symm.trans hz))
        exact ⟨rfl, rfl, rfl⟩
      · obtain rfl := Option.some.inj (Option.some.inj (hy.symm.trans hz))
        exact ⟨rfl, rfl, rfl⟩
    · obtain ⟨kept, tag, hat, hothers⟩ := c.take_matched_decided e i j x y hne hx hy hopen
      have hi : d.samples[i]? = some (if kept then some (x.tagged tag) else none) := hat i (by simp) x hx
      have hj : d.samples[j]? = some (if kept then some (y.tagged tag) else none) := hat j (by simp) y hy
      refine ⟨?_, fun k hki hkj => hothers k (by simp [hki, hkj]), fun z hz => ?_, fun z hz => ?_⟩
      · rw [List.getD_eq_getElem?_getD, List.getD_eq_getElem?_getD, hi, hj]
        cases kept <;> rfl
      · have hz' := Option.some.inj (hi.symm.trans hz)
        split_ifs at hz'
        obtain rfl := Option.some.inj hz'
        exact x.tagged_keeps tag
      · have hz' := Option.some.inj (hj.symm.trans hz)
        split_ifs at hz'
        obtain rfl := Option.some.inj hz'
        exact y.tagged_keeps tag

end Sys2Proof.Machine
end
